-- ==== Sys2Proof/Word.lean ====
section
/-! DEFINITION. The byte, the one width of a value in this block (R9, R62), and a store of bytes. -/

namespace Sys2Proof

/-- R9: an unsigned 8-bit value. -/
abbrev Byte := BitVec 8

end Sys2Proof
end

