-- ==== Sys2Proof/Config.lean ====
section
/-! DEFINITION. What an implementation fixes (the two OPEN parameters, R6, R7) and what nothing fixes (the free
values: draws of R10, bytes DEV sends, and which agent moves next). -/

namespace Sys2Proof

/-- The implementation parameters of R6 and R7. -/
structure Config where
  /-- R6: QDEPTH, the number of slots of each queue. -/
  qdepth : Nat
  /-- R7: MAX_LEN, the longest payload. -/
  maxLen : Nat
deriving DecidableEq, Repr

/-- R6, R7: the bounds of the two OPEN parameters. -/
abbrev Config.Wf (c : Config) : Prop :=
  2 ≤ c.qdepth ∧ c.qdepth ≤ 256 ∧ 1 ≤ c.maxLen ∧ c.maxLen ≤ 255

/-- R6, R7: the reference configuration. PRESUMED (notes/assumptions/1.md): the spec marks both numbers as general
knowledge. -/
def Config.reference : Config := ⟨4, 31⟩

/-- One turn of the system: which agent moves next (R12, R14), or the reset input (R240). -/
inductive Turn where
  /-- HOST takes its next micro-step. -/
  | host
  /-- SVC takes its next step, or tries to start (R142). -/
  | svc
  /-- DEV drives the ready line to this level (R141). -/
  | dev (rdyn : Bool)
  /-- The reset input is asserted (R240). -/
  | rst
deriving DecidableEq, Repr, Inhabited

/-- `draw()` of R10 and R68: the value of the n-th draw. It has no body, so nothing can be proved of it. -/
opaque Config.freeByte : Nat → Byte

/-- R13: the byte DEV answers with once the listed answers are used up. No body. -/
opaque Config.freeAnswer : Nat → Byte

/-- R13, R15 and U20: the agent that moves once the listed turns are used up. No body. -/
opaque Config.freeTurn : Nat → Turn

end Sys2Proof
end

