-- ==== Sys2Proof/Syntax.lean ====
section
/-! DEFINITION. The operations of spec/opcode_table.json: ten host commands and ILLEGAL (R84, R90), and the internal
operations, which no command word encodes (R94). -/

namespace Sys2Proof

/-- R8, R33: the operating mode. -/
inductive Mode where
  /-- Host-polled mode, bit value 0. -/
  | polled
  /-- Edge-interrupt mode, bit value 1. -/
  | edge
deriving DecidableEq, Repr

/-- R31: the two queues. -/
inductive QueueName where
  /-- The outgoing queue, TXQ. -/
  | tx
  /-- The incoming queue, RXQ. -/
  | rx
deriving DecidableEq, Repr

/-- The packet registers a queue primitive can be given as its destination (R104, R105). -/
inductive PacketReg where
  /-- TXB (R39). -/
  | txb
  /-- RXB (R39). -/
  | rxb
  /-- The caller's own packet, `out` of R183 and R184. -/
  | out
deriving DecidableEq, Repr

/-- One constructor for each mnemonic of spec/opcode_table.json, in its order. -/
inductive Instr where
  /-- INIT (R181): CFG[0] as a mode. -/
  | init (mode : Mode)
  /-- SEND (R182): the payload; its length byte is the number of its bytes. -/
  | send (payload : List Byte)
  /-- PEEK_EVENT (R183). -/
  | peekEvent
  /-- GET_EVENT (R184). -/
  | getEvent
  /-- TXQ_EMPTY (R185). -/
  | txqEmpty
  /-- TXQ_FULL (R186). -/
  | txqFull
  /-- RXQ_EMPTY (R187). -/
  | rxqEmpty
  /-- RXQ_FULL (R188). -/
  | rxqFull
  /-- FLUSH (R189). -/
  | flush
  /-- DEBUG_SET (R190): D[0]. -/
  | debugSet (enable : Bool)
  /-- ILLEGAL (R90): the refused command word and the operand bytes it consumes; all seven rows of the table. -/
  | illegal (cmd : Byte) (operands : List Byte)
  /-- Q_IS_EMPTY (R100). -/
  | qIsEmpty (q : QueueName)
  /-- Q_IS_FULL (R101). -/
  | qIsFull (q : QueueName)
  /-- Q_INIT (R102). -/
  | qInit (q : QueueName)
  /-- Q_ENQUEUE (R103): the packet written out. -/
  | qEnqueue (q : QueueName) (status length : Byte) (payload : List Byte)
  /-- Q_DEQUEUE (R104): `none` discards the head entry. -/
  | qDequeue (q : QueueName) (dst : Option PacketReg)
  /-- Q_PEEK (R105). -/
  | qPeek (q : QueueName) (dst : PacketReg)
  /-- Q_FLUSH (R106). -/
  | qFlush
  /-- S_START (R121). -/
  | sStart
  /-- S_FETCH (R122). -/
  | sFetch
  /-- S_HDR0 (R123). -/
  | sHdr0
  /-- S_HDR1 (R124). -/
  | sHdr1
  /-- S_BODY (R126). -/
  | sBody
  /-- S_END (R128). -/
  | sEnd
  /-- S_REARM (R129). -/
  | sRearm
  /-- SVC_START (R142). -/
  | svcStart
  /-- S_ENTRY (R143). -/
  | sEntry
  /-- S_POST (R144). -/
  | sPost
  /-- S_EXIT (R145). -/
  | sExit
  /-- POLL_CHECK (R146). -/
  | pollCheck
  /-- DEV_RDYN (R141): the level DEV drives. -/
  | devRdyn (level : Bool)
  /-- MASK_CHECK (R161). -/
  | maskCheck
  /-- UNMASK_CHECK (R162): the dequeue's success, and whether RXQ was full before it. -/
  | unmaskCheck (ok wasFull : Bool)
  /-- RST (R240). -/
  | rst
  /-- FATAL, `raise Fatal(cause)` (R210). -/
  | fatal (cause : Byte)
deriving DecidableEq, Repr

end Sys2Proof
end

