-- ==== Sys2Proof/WellFormed.lean ====
section
/-! DEFINITION. Which terms of `Instr` stand for an operation of the spec: the operand checks of R82, R83, R90, R103
and R211. -/

namespace Sys2Proof

/-- R83, R90, R91: the operand bytes that an opcode takes, whatever its RSV bits: one for INIT and DEBUG_SET, a framed
packet for SEND, none for every other. -/
def operandsFit (op : Nat) (operands : List Byte) : Bool :=
  if op = 1 ∨ op = 10 then operands.length == 1
  else if op = 2 then
    match operands with
    | [] => false
    | len :: payload => payload.length == len.toNat
  else operands.isEmpty

/-- R90: the four grounds on which a command word with its operand bytes is refused. -/
def isIllegalEncoding (cmd : Byte) (operands : List Byte) : Bool :=
  let op := cmd.toNat % 16
  op = 0 || 11 ≤ op || 16 ≤ cmd.toNat ||
    ((op = 1 || op = 10) && operands.any fun b => 2 ≤ b.toNat)

/-- Well-formed operations. -/
def Instr.wf : Instr → Bool
  | .init _ => true
  | .send payload => payload.length ≤ 255
  | .peekEvent => true
  | .getEvent => true
  | .txqEmpty => true
  | .txqFull => true
  | .rxqEmpty => true
  | .rxqFull => true
  | .flush => true
  | .debugSet _ => true
  | .illegal cmd operands => operandsFit (cmd.toNat % 16) operands && isIllegalEncoding cmd operands
  | .qIsEmpty _ => true
  | .qIsFull _ => true
  | .qInit _ => true
  | .qEnqueue _ _ length payload => payload.length == length.toNat
  | .qDequeue _ _ => true
  | .qPeek _ _ => true
  | .qFlush => true
  | .sStart => true
  | .sFetch => true
  | .sHdr0 => true
  | .sHdr1 => true
  | .sBody => true
  | .sEnd => true
  | .sRearm => true
  | .svcStart => true
  | .sEntry => true
  | .sPost => true
  | .sExit => true
  | .pollCheck => true
  | .devRdyn _ => true
  | .maskCheck => true
  | .unmaskCheck _ _ => true
  | .rst => true
  | .fatal cause => cause == 1

end Sys2Proof
end

