-- ==== Sys2Proof/Decode.lean ====
section
/-! DEFINITION. The command decoder (R81, R83, R84, R90, R91), total on any bytes, and the encoder. -/

namespace Sys2Proof

/-- Why the bytes on the port are no command yet (R91): HOST has not put every byte there. -/
inductive DecodeError where
  /-- No byte is on the port. -/
  | noCommand
  /-- The command word is there, and operand bytes are missing. -/
  | truncated
deriving DecidableEq, Repr

/-- R81: OP = CMD[3:0]. -/
def opField (cmd : Byte) : Nat := cmd.toNat % 16

/-- R81: RSV = CMD[7:4]. -/
def rsvField (cmd : Byte) : Nat := cmd.toNat / 16

/-- R91: the operand bytes of an opcode, and the bytes after them; `none` where bytes are missing. -/
def takeOperands (op : Nat) (bs : List Byte) : Option (List Byte × List Byte) :=
  match op, bs with
  | 1, b :: rest => some ([b], rest)
  | 1, [] => none
  | 10, b :: rest => some ([b], rest)
  | 10, [] => none
  | 2, len :: rest =>
    if len.toNat ≤ rest.length then some (len :: rest.take len.toNat, rest.drop len.toNat) else none
  | 2, [] => none
  | _, _ => some ([], bs)

/-- R83: bits 7:1 of CFG and of D are reserved and must be 0. -/
def operandBit (b : Byte) : Option Bool :=
  if b.toNat / 2 = 0 then some (b.getLsbD 0) else none

/-- R83: CFG[0] as a mode. -/
def modeOfBit (edge : Bool) : Mode := if edge then .edge else .polled

/-- R84, R90: the command of a command word and its operand bytes. -/
def decodeCommand (cmd : Byte) (operands : List Byte) : Instr :=
  if rsvField cmd ≠ 0 then .illegal cmd operands
  else
    match opField cmd, operands with
    | 1, [cfg] =>
      match operandBit cfg with
      | some edge => .init (modeOfBit edge)
      | none => .illegal cmd operands
    | 2, _ :: payload => .send payload
    | 3, _ => .peekEvent
    | 4, _ => .getEvent
    | 5, _ => .txqEmpty
    | 6, _ => .txqFull
    | 7, _ => .rxqEmpty
    | 8, _ => .rxqFull
    | 9, _ => .flush
    | 10, [d] =>
      match operandBit d with
      | some enable => .debugSet enable
      | none => .illegal cmd operands
    | _, _ => .illegal cmd operands

/-- R91: read one command from the front of a byte stream, with the bytes after it. -/
def decode : List Byte → Except DecodeError (Instr × List Byte)
  | [] => .error .noCommand
  | cmd :: bs =>
    match takeOperands (opField cmd) bs with
    | none => .error .truncated
    | some (operands, rest) => .ok (decodeCommand cmd operands, rest)

/-- The longest command (R91): a command word, a length byte and 255 payload bytes. -/
def longestCommand : Nat := 257

/-- The first `longestCommand` bytes of an instruction whose bits below `nbits` are `w` and whose other bits are 0: the
command word is bits 7:0, the next byte bits 15:8, and so on. -/
def tableBytes (nbits w : Nat) : List Byte :=
  (List.range longestCommand).map fun k => if 8 * k < nbits then BitVec.ofNat 8 (w >>> (8 * k)) else 0

/-- What the decoder reads from a row of spec/opcode_table.json. -/
def decodeTableWord (nbits w : Nat) : Option Instr :=
  match decode (tableBytes nbits w) with
  | .ok (i, _) => some i
  | .error _ => none

/-- R83: the operand byte of a mode. -/
def modeByte : Mode → Byte
  | .polled => 0
  | .edge => 1

/-- R81 to R84: the bytes of a command; an internal operation has none (R94). -/
def encode : Instr → Option (List Byte)
  | .init mode => some [0x01, modeByte mode]
  | .send payload => some (0x02 :: BitVec.ofNat 8 payload.length :: payload)
  | .peekEvent => some [0x03]
  | .getEvent => some [0x04]
  | .txqEmpty => some [0x05]
  | .txqFull => some [0x06]
  | .rxqEmpty => some [0x07]
  | .rxqFull => some [0x08]
  | .flush => some [0x09]
  | .debugSet enable => some [0x0A, if enable then 1 else 0]
  | .illegal cmd operands => some (cmd :: operands)
  | .qIsEmpty _ => none
  | .qIsFull _ => none
  | .qInit _ => none
  | .qEnqueue _ _ _ _ => none
  | .qDequeue _ _ => none
  | .qPeek _ _ => none
  | .qFlush => none
  | .sStart => none
  | .sFetch => none
  | .sHdr0 => none
  | .sHdr1 => none
  | .sBody => none
  | .sEnd => none
  | .sRearm => none
  | .svcStart => none
  | .sEntry => none
  | .sPost => none
  | .sExit => none
  | .pollCheck => none
  | .devRdyn _ => none
  | .maskCheck => none
  | .unmaskCheck _ _ => none
  | .rst => none
  | .fatal _ => none

end Sys2Proof
end

