-- ==== Sys2Proof/Machine/Memory.lean ====
section
/-! DEFINITION. A store of bytes: cells in strictly rising address order. An address without a cell holds no defined
value (R68: a byte never written), so no cell can equal what an unlisted address reads as. -/

namespace Sys2Proof.Machine

/-- The cells of a store. -/
abbrev Memory := List Host.Cell

/-- The byte at an address, `none` where nothing has been written (R68). -/
def Memory.read : Memory → Nat → Option Byte
  | [], _ => none
  | (x, b) :: rest, a => if x = a then some b else Memory.read rest a

/-- Write one byte, keeping the cells in order. -/
def Memory.write : Memory → Nat → Byte → Memory
  | [], a, b => [(a, b)]
  | (x, c) :: rest, a, b =>
    if a < x then (a, b) :: (x, c) :: rest
    else if a = x then (a, b) :: rest
    else (x, c) :: Memory.write rest a b

/-- Every address of the cells is above `lo`, and they rise strictly. -/
def Memory.risesAbove : Nat → Memory → Bool
  | _, [] => true
  | lo, (x, _) :: rest => lo < x && Memory.risesAbove x rest

/-- The canonical form: strictly rising addresses. -/
def Memory.wf : Memory → Bool
  | [] => true
  | (x, _) :: rest => Memory.risesAbove x rest

/-- Write the bytes of a list at the addresses from `a` on. -/
def Memory.writeList : Memory → Nat → List Byte → Memory
  | m, _, [] => m
  | m, a, b :: bs => Memory.writeList (Memory.write m a b) (a + 1) bs

/-- The cells of the bytes of a list, from address `a` on. -/
def Memory.ofList : Nat → List Byte → Memory
  | _, [] => []
  | a, b :: bs => (a, b) :: Memory.ofList (a + 1) bs

/-- The cells of the `n` addresses from `base` on, moved to the addresses from `at_` on. -/
def Memory.slice (m : Memory) (base at_ : Nat) : Nat → Memory
  | 0 => []
  | n + 1 =>
    match Memory.read m base with
    | some b => (at_, b) :: Memory.slice m (base + 1) (at_ + 1) n
    | none => Memory.slice m (base + 1) (at_ + 1) n

end Sys2Proof.Machine
end

