-- ==== Sys2Proof/Machine/State.lean ====
section
/-! DEFINITION. The machine's state (R30 to R44), its interfaces (R80), why a step can stop (R215), and the state
after reset (R48). A one-bit field is a Bool, `true` for 1. -/

namespace Sys2Proof.Machine

/-- R32: a packet. `payload` holds byte j at address j; an address without a cell is an unspecified byte (R68). -/
structure Packet where
  /-- R32: the status byte. -/
  status : Byte
  /-- R32: the count of meaningful payload bytes. -/
  length : Byte
  /-- R32: the payload. -/
  payload : Memory
deriving DecidableEq, Repr

/-- R122: the null packet. Its payload is unspecified. -/
def Packet.null : Packet := ⟨0, 0, []⟩

/-- R31: a queue. `mem` holds byte k of slot i at address i * (2 + MAX_LEN) + k (R60). -/
structure Queue where
  /-- R60: the bytes of the slots. -/
  mem : Memory
  /-- R31: the slot of the oldest entry. -/
  head : Nat
  /-- R31: the slot the next enqueue writes. -/
  tail : Nat
deriving DecidableEq, Repr

/-- R48: both indices 0, every slot byte unspecified. -/
def Queue.atReset : Queue := ⟨[], 0, 0⟩

/-- R38: the values of SVC_ST. -/
inductive SvcState where
  | sIdle
  | sEntry
  | sStart
  | sFetch
  | sHdr0
  | sHdr1
  | sBody
  | sEnd
  | sRearm
  | sPost
  | sExit
  | sFatal
deriving DecidableEq, Repr

/-- R44: the host command in progress. -/
structure HostCommand where
  /-- R44: `op` and `args`, the decoded command. -/
  instr : Instr
  /-- R218: the index of the micro-step that HCMD is at, the last one taken: POLL_CHECK during an inline service. R44's
  `step`, the index of its next micro-step, is `HostCommand.step`, one more (notes/assumptions/12.md). -/
  current : Nat
  /-- R44: `scratch`, the `ok` of SEND. -/
  ok : Bool
deriving DecidableEq, Repr

/-- R85, R86: one response, the word and its data bytes. -/
structure Response where
  /-- R85: RESP. -/
  word : Byte
  /-- R86: the packet image, or nothing. -/
  data : List Byte
deriving DecidableEq, Repr

/-- R190: the direction of a diagnostic record. -/
inductive DiagDir where
  | tx
  | rx
deriving DecidableEq, Repr

/-- R190: one diagnostic record: direction, length, and the bytes payload[0 .. length-1]. -/
structure DiagRecord where
  dir : DiagDir
  length : Byte
  bytes : List Byte
deriving DecidableEq, Repr

/-- R10, R87: one exchange, the byte sent and the byte received. -/
structure Exchange where
  sent : Byte
  received : Byte
deriving DecidableEq, Repr

/-- The whole machine. -/
structure State where
  /-- R6, R7: the parameters; no step writes them. -/
  cfg : Config
  /-- R31: TXQ. -/
  txq : Queue
  /-- R31: RXQ. -/
  rxq : Queue
  /-- R33: MODE. -/
  mode : Mode
  /-- R34: REQN, active low. -/
  reqn : Bool
  /-- R35: RDY_MASK. -/
  rdyMask : Bool
  /-- R36: ATTACHED. -/
  attached : Bool
  /-- R40: RDY_PEND. -/
  rdyPend : Bool
  /-- R37: RDYN, active low, driven by DEV. -/
  rdyn : Bool
  /-- R38: SVC_ST. -/
  svcSt : SvcState
  /-- R39: TXB. -/
  txb : Packet
  /-- R39: RXB. -/
  rxb : Packet
  /-- R39: LD. -/
  ld : Byte
  /-- R39: MB. -/
  mb : Byte
  /-- R39: K. -/
  k : Byte
  /-- R41: FATAL. -/
  fatal : Bool
  /-- R41, R211: FATAL_CAUSE. -/
  fatalCause : Byte
  /-- R42: INIT_DONE. -/
  initDone : Bool
  /-- R43: DEBUG_EN. -/
  debugEn : Bool
  /-- R44: HCMD, `none` for no command in progress. -/
  hcmd : Option HostCommand
  /-- R80: the command port: bytes HOST has put there that no command has taken yet. -/
  cmdPort : List Byte
  /-- R13: the bytes DEV will answer the next exchanges with. -/
  devAnswers : List Byte
  /-- R80: the PINCFG descriptors that HOST presents with its next INITs, opaque, one for each. That each INIT can bring
  its own is the model's choice (notes/assumptions/20.md). -/
  pincfg : List (List Byte)
  /-- The model's own: the agents that move next. -/
  turns : List Turn
  /-- The model's own: numbers the free values. -/
  draws : Nat
  /-- R80: the response port: every response so far, oldest first. -/
  responses : List Response
  /-- R80: the exchange port: every exchange so far, oldest first. -/
  wire : List Exchange
  /-- R80, R190: every diagnostic record so far, oldest first. -/
  diag : List DiagRecord
  /-- R80, R181: every descriptor forwarded to the pin/bus collaborator, oldest first. -/
  pincfgOut : List (List Byte)
  /-- The model's own: what the last queue primitive run as an operation of its own returned. -/
  primOk : Bool
  /-- The model's own: the caller's packet `out` of a queue primitive run as an operation of its own. -/
  primOut : Packet
deriving DecidableEq, Repr

/-- Why a step stops with a fault. All four are model faults: no reachable state raises one (R215). -/
inductive Fault where
  /-- R103, R215: Q_ENQUEUE was given a length above MAX_LEN. Raised by Q_ENQUEUE, SEND and S_POST. Safe. -/
  | qOverlen
  /-- R215: a step of the service sequence was taken where its precondition fails. Raised by the S_ operations. Safe. -/
  | svcPrecondition
  /-- R60: a queue index names a slot outside the storage. Raised by the queue primitives and their callers. Safe. -/
  | slotRange
  /-- R44, R191: HCMD.step is past the last micro-step of its command. Raised by the host commands. Safe. -/
  | microStepRange
deriving DecidableEq, Repr

/-- Why a step is refused. -/
inductive Refusal where
  /-- Raised by `exec` alone, for an operation that has no meaning yet; no arm does so. Safe. -/
  | notModelled (mnemonic : String)
deriving DecidableEq, Repr

/-- R48: the state after hardware reset. The values that R48 leaves unspecified, the parameters, RDYN and the empty
interfaces are the model's (notes/assumptions/1.md, 2.md, 3.md, 4.md, 5.md, 6.md, 7.md, 8.md, 17.md, 20.md). -/
def State.reset : State where
  cfg := Config.reference
  txq := Queue.atReset
  rxq := Queue.atReset
  mode := .polled
  reqn := true
  rdyMask := false
  attached := false
  rdyPend := false
  rdyn := true
  svcSt := .sIdle
  txb := Packet.null
  rxb := Packet.null
  ld := 0
  mb := 0
  k := 0
  fatal := false
  fatalCause := 0
  initDone := false
  debugEn := false
  hcmd := none
  cmdPort := []
  devAnswers := []
  pincfg := []
  turns := []
  draws := 0
  responses := []
  wire := []
  diag := []
  pincfgOut := []
  primOk := false
  primOut := Packet.null

end Sys2Proof.Machine
end

