-- ==== Sys2Proof/Machine/Operands.lean ====
section
/-! DEFINITION. The operand forms: a queue by name, a packet register, the address of a slot byte (R60), the bytes of a
packet (R68), and the byte sent at a transfer position (R88). -/

namespace Sys2Proof.Machine

/-- R44: `HCMD.step`, the index of the next micro-step; it advances by one at each micro-step. -/
def HostCommand.step (h : HostCommand) : Nat := h.current + 1

/-- R9: `next(i) = (i + 1) mod QDEPTH`. -/
def nextIndex (c : Config) (i : Nat) : Nat := (i + 1) % c.qdepth

/-- R60: where byte k of slot i lies in a queue's storage. -/
def slotAddr (c : Config) (i k : Nat) : Nat := i * (2 + c.maxLen) + k

/-- R31: the queue of a name. -/
def State.queue (s : State) : QueueName → Queue
  | .tx => s.txq
  | .rx => s.rxq

/-- Replace the queue of a name. -/
def State.setQueue (s : State) (name : QueueName) (q : Queue) : State :=
  match name with
  | .tx => { s with txq := q }
  | .rx => { s with rxq := q }

/-- R104, R105: write a destination packet register. -/
def State.setPacket (s : State) (r : PacketReg) (p : Packet) : State :=
  match r with
  | .txb => { s with txb := p }
  | .rxb => { s with rxb := p }
  | .out => { s with primOut := p }

/-- R32, R82: the packet of a status byte, a length byte and payload bytes. -/
def Packet.ofBytes (status length : Byte) (payload : List Byte) : Packet :=
  ⟨status, length, Memory.ofList 0 payload⟩

/-- Payload byte j; an unspecified byte is the draw `d + j` (R68). -/
def Packet.byteAt (p : Packet) (d j : Nat) : Byte :=
  (Memory.read p.payload j).getD (Config.freeByte (d + j))

/-- payload[0 .. length-1]. -/
def Packet.body (p : Packet) (d : Nat) : List Byte :=
  (List.range p.length.toNat).map fun j => Packet.byteAt p d j

/-- R86: the image of a packet, `2 + MAX_LEN` bytes. The payload bytes from `length` on are draws (R68). -/
def Packet.image (p : Packet) (c : Config) (d : Nat) : List Byte :=
  p.status :: p.length ::
    (List.range c.maxLen).map fun j =>
      if j < p.length.toNat then Packet.byteAt p d j else Config.freeByte (d + j)

/-- R88: the byte sent at transfer position k for the outgoing packet p. -/
def txframe (p : Packet) (d k : Nat) : Byte :=
  if k = 0 then p.length
  else if k ≤ p.length.toNat then Packet.byteAt p d (k - 1)
  else 0

end Sys2Proof.Machine
end

