-- ==== Sys2Proof/Machine/Flags.lean ====
section
/-! DEFINITION. The truth values the block computes: queue occupancy (R100, R101), the response word (R85), the start
condition (R142) and who may step (R15, R16, R18). The block has no flag register (R46). -/

namespace Sys2Proof.Machine

/-- R100. -/
def qIsEmpty (q : Queue) : Bool := q.head == q.tail

/-- R101: usable capacity is QDEPTH - 1. -/
def qIsFull (c : Config) (q : Queue) : Bool := nextIndex c q.tail == q.head

/-- R85: the CODE field; 0b11 is never produced. -/
inductive Code where
  | done
  | illegal
  | notInit
deriving DecidableEq, Repr

/-- R85: the value of CODE. -/
def codeValue : Code → Byte
  | .done => 0
  | .illegal => 1
  | .notInit => 2

/-- R85: RESP[0] is RESULT, RESP[2:1] is CODE, RESP[7:3] is 0. -/
def respWord (code : Code) (result : Bool) : Byte :=
  codeValue code <<< 1 ||| (if result then 1 else 0)

/-- R142: whether an EDGE-mode service may start. -/
def startEnabled (s : State) : Bool :=
  s.mode == .edge && s.initDone && !s.fatal && s.svcSt == .sIdle && s.rdyPend && s.attached && !s.rdyMask

/-- R15, R16, R18: a HOST micro-step is enabled only outside a service and outside the fatal state. -/
def hostEnabled (s : State) : Bool := !s.fatal && s.svcSt == .sIdle

/-- R146, R241, R16, R12: HOST may take POLL_CHECK as a micro-step of its own (notes/assumptions/16.md). -/
def pollEnabled (s : State) : Bool :=
  hostEnabled s && s.initDone && s.mode == .polled && s.hcmd.isNone

/-- R12, R15, R16, R18: HOST may take a micro-step of `i`: it is enabled, and no other command is in progress. -/
def hostReady (i : Instr) (s : State) : Bool :=
  hostEnabled s &&
    match s.hcmd with
    | none => true
    | some h => h.instr == i

/-- R18, R38: SVC may take the step `st`. -/
def svcReady (st : SvcState) (s : State) : Bool := s.svcSt == st && !s.fatal

end Sys2Proof.Machine
end

