-- ==== Sys2Proof/Machine/Ops.lean ====
section
/-! DEFINITION. The operations that several meanings share: the queue primitives (R100 to R106), one exchange (R10), the
response (R85), the diagnostic record (R190), the flow controller (R161, R162), the poll (R146), the fatal exception
(R210), and entry to and return from the service (R142, R143, R145). -/

namespace Sys2Proof.Machine

/-- The outcome of one step of this machine. -/
abbrev Result := Host.Outcome State Fault Refusal

/-- Number past the free values of one primitive or record, at most one for each byte of a slot. -/
def fresh (s : State) : State := { s with draws := s.draws + (2 + s.cfg.maxLen) }

/-- R102: the length byte of the slots below n set to 0. -/
def zeroLengths (c : Config) : Nat → Memory → Memory
  | 0, m => m
  | n + 1, m => Memory.write (zeroLengths c n m) (slotAddr c n 1) 0

/-- R102. -/
def qInit (c : Config) (q : Queue) : Queue := ⟨zeroLengths c c.qdepth q.mem, 0, 0⟩

/-- R103: `none` for the result false, a full queue. -/
def qEnqueue (c : Config) (q : Queue) (p : Packet) (d : Nat) : Except Fault (Option Queue) :=
  if c.maxLen < p.length.toNat then .error .qOverlen
  else if qIsFull c q then .ok none
  else if q.tail < c.qdepth then
    .ok (some
      { mem := Memory.writeList q.mem (slotAddr c q.tail 0) (0 :: p.length :: Packet.body p d)
        head := q.head
        tail := nextIndex c q.tail })
  else .error .slotRange

/-- R104, R105: the packet of the head slot; its payload bytes from `length` on are unspecified. -/
def headPacket (c : Config) (q : Queue) (d : Nat) : Packet :=
  let length := (Memory.read q.mem (slotAddr c q.head 1)).getD (Config.freeByte (d + 1))
  { status := (Memory.read q.mem (slotAddr c q.head 0)).getD (Config.freeByte d)
    length := length
    payload := Memory.slice q.mem (slotAddr c q.head 2) 0 (min length.toNat c.maxLen) }

/-- R105: `none` for the result false, an empty queue. -/
def qPeek (c : Config) (q : Queue) (d : Nat) : Except Fault (Option Packet) :=
  if qIsEmpty q then .ok none
  else if q.head < c.qdepth then .ok (some (headPacket c q d))
  else .error .slotRange

/-- R104: a peek, and head moves on. -/
def qDequeue (c : Config) (q : Queue) (d : Nat) : Except Fault (Option (Packet × Queue)) :=
  match qPeek c q d with
  | .error f => .error f
  | .ok none => .ok none
  | .ok (some p) => .ok (some (p, { q with head := nextIndex c q.head }))

/-- R106. -/
def qFlush (s : State) : State := { s with txq := qInit s.cfg s.txq, rxq := qInit s.cfg s.rxq }

/-- R10: `Exchange(t)`. The byte received is DEV's (R13). -/
def exchange (t : Byte) (s : State) : Byte × State :=
  let r := s.devAnswers.head?.getD (Config.freeAnswer s.draws)
  (r, { s with
    devAnswers := s.devAnswers.tail
    wire := s.wire ++ [⟨t, r⟩]
    draws := s.draws + 1 })

/-- R85: `respond(code, result, data)`: the command ends and its response goes out. -/
def respond (code : Code) (result : Bool) (data : List Byte) (s : State) : State :=
  { s with hcmd := none, responses := s.responses ++ [⟨respWord code result, data⟩] }

/-- R190: the record of a packet, emitted while DEBUG_EN is 1. -/
def emitDiag (dir : DiagDir) (p : Packet) (s : State) : State :=
  fresh { s with diag := if s.debugEn then s.diag ++ [⟨dir, p.length, Packet.body p s.draws⟩] else s.diag }

/-- R125: the post-header byte count. -/
def maxBytes (c : Config) (lh ld : Nat) : Nat :=
  min (if lh = 0 then ld else max ld (lh - 1)) c.maxLen

/-- R161. -/
def maskCheck (s : State) : State :=
  if s.mode == .edge && qIsFull s.cfg s.rxq then { s with rdyMask := true } else s

/-- R162. -/
def unmaskCheck (ok wasFull : Bool) (s : State) : State :=
  if ok && wasFull && s.mode == .edge then { s with rdyMask := false } else s

/-- R146. -/
def pollCheck (s : State) : State :=
  if qIsFull s.cfg s.rxq then s
  else if s.rdyn then
    if qIsEmpty s.txq then s else { s with reqn := false }
  else { s with svcSt := .sStart }

/-- R210: `raise Fatal(cause)`, the one exception. Nothing else changes. -/
def raiseFatal (cause : Byte) (s : State) : State :=
  { s with fatal := true, fatalCause := cause, svcSt := .sFatal }

/-- R211: the cause code RXQ_OVERFLOW. -/
def causeRxqOverflow : Byte := 1

/-- R142: the start of a service. -/
def serviceStart (s : State) : State := { s with svcSt := .sEntry }

/-- R143, R218: entry to the service handler. HCMD stays as it is, which is all the saved context. -/
def serviceEntry (s : State) : State :=
  { s with attached := false, rdyPend := false, svcSt := .sStart }

/-- R145, R219: return from the service handler. -/
def serviceReturn (s : State) : State :=
  { s with attached := if s.mode = .edge then true else s.attached, svcSt := .sIdle }

/-- R38, R215: a step of the service sequence, a model fault where SVC is not at it. -/
def svcStep (st : SvcState) (body : State → Result) (s : State) : Result :=
  if svcReady st s then body s else .fault .svcPrecondition

/-- R180, R191: a micro-step of the host command `i`. A new command passes the acceptance check; `micro` gives the
micro-steps by index. Where HOST is not enabled it waits. -/
def hostMicro (i : Instr) (needsInit : Bool) (micro : Nat → State → Result) (s : State) : Result :=
  if hostReady i s then
    match s.hcmd with
    | none => if needsInit && !s.initDone then .next (respond .notInit false [] s) else micro 0 s
    | some h => micro h.step s
  else .next s

/-- R191: the list of a command with one micro-step. -/
def oneMicroStep (body : State → State) : Nat → State → Result
  | 0, s => .next (body s)
  | _ + 1, _ => .fault .microStepRange

/-- R146 as the first micro-step, index 0, of the command `i`. HCMD is at it from then on, during the inline service too
(R218), and HCMD.step is 1, the micro-step at which HOST resumes (R44, R145). -/
def pollFirst (i : Instr) (s : State) : State := { pollCheck s with hcmd := some ⟨i, 0, false⟩ }

/-- R183, R184, R191: the list of a command that polls first in POLLED mode and has its effect in `body`. -/
def pollThen (i : Instr) (body : State → Result) : Nat → State → Result
  | 0, s =>
    if s.mode = .polled then .next (pollFirst i s) else body s
  | 1, s => body s
  | _ + 2, _ => .fault .microStepRange

end Sys2Proof.Machine
end

