-- ==== Sys2Proof/Machine/Bridge.lean ====
section
/-! DEFINITION. The line monitor and interrupt bridge (R140 to R147). -/

namespace Sys2Proof.Machine

/-- R142: taken where it is enabled; elsewhere nothing happens. -/
def execSvcStart (s : State) : Result :=
  if startEnabled s then .next (serviceStart s) else .next s

/-- R143: EDGE mode only. -/
def execSEntry (s : State) : Result :=
  svcStep .sEntry (fun s => if s.mode = .edge then .next (serviceEntry s) else .fault .svcPrecondition) s

/-- R144: queue the result. -/
def postResult (s : State) : Result :=
  if s.rxb.length.toNat = 0 then .next { s with svcSt := .sExit }
  else
    match qEnqueue s.cfg s.rxq s.rxb s.draws with
    | .error f => .fault f
    | .ok none => .next (raiseFatal causeRxqOverflow s)
    | .ok (some q) => .next { maskCheck (fresh { s with rxq := q }) with svcSt := .sExit }

/-- R144. -/
def execSPost (s : State) : Result := svcStep .sPost postResult s

/-- R145. -/
def execSExit (s : State) : Result := svcStep .sExit (fun s => .next (serviceReturn s)) s

/-- R146: it runs in POLLED mode only, and not before INIT (R241). As an operation of its own it changes nothing where
HOST may take no such micro-step: in EDGE mode, during a service, after a fatal, and while a command is in progress. That
is the model's reading (notes/assumptions/16.md). -/
def execPollCheck (s : State) : Result :=
  if pollEnabled s then .next (pollCheck s) else .next s

/-- R141: a ready-line change and the edge latch. -/
def execDevRdyn (level : Bool) (s : State) : Result :=
  let latch := s.rdyn && !level && s.initDone && !s.fatal && s.mode == .edge
  .next { s with rdyn := level, rdyPend := s.rdyPend || latch }

end Sys2Proof.Machine
end

