-- ==== Sys2Proof/Machine/Flow.lean ====
section
/-! DEFINITION. The flow controller (R160 to R167). -/

namespace Sys2Proof.Machine

/-- R161. -/
def execMaskCheck (s : State) : Result := .next (maskCheck s)

/-- R162. -/
def execUnmaskCheck (ok wasFull : Bool) (s : State) : Result := .next (unmaskCheck ok wasFull s)

end Sys2Proof.Machine
end

