-- ==== Sys2Proof/Machine/HostApi.lean ====
section
/-! DEFINITION. The host commands (R180 to R191) and the refusal of a reserved encoding (R90). -/

namespace Sys2Proof.Machine

/-- R181, i1: the link is initialised. It forwards the next descriptor that HOST presents, an empty one where none is listed
(the model's choice: notes/assumptions/20.md). -/
def initLink (mode : Mode) (s : State) : State :=
  respond .done true []
    { qFlush s with
      mode := mode
      reqn := true
      rdyMask := false
      rdyPend := false
      attached := mode = .edge
      initDone := true
      pincfg := s.pincfg.tail
      pincfgOut := s.pincfgOut ++ [s.pincfg.head?.getD []] }

/-- R181. -/
def execInit (mode : Mode) (s : State) : Result :=
  hostMicro (.init mode) false (oneMicroStep (initLink mode)) s

/-- R182, s1: the length check comes before the full check (R217). -/
def sendEnqueue (payload : List Byte) (s : State) : Result :=
  if s.cfg.maxLen < payload.length then .next (respond .done false [] s)
  else
    let p := Packet.ofBytes 0 (BitVec.ofNat 8 payload.length) payload
    match qEnqueue s.cfg s.txq p s.draws with
    | .error f => .fault f
    | .ok none => .next (respond .done false [] s)
    | .ok (some q) =>
      .next { emitDiag .tx p (fresh { s with txq := q }) with hcmd := some ⟨.send payload, 0, true⟩ }

/-- R182, s2: it exists only where s1 queued the packet. -/
def sendAssert (s : State) : Result :=
  match s.hcmd with
  | some ⟨_, _, true⟩ => .next (respond .done true [] { s with reqn := false })
  | _ => .fault .microStepRange

/-- R182: the micro-steps of SEND. -/
def sendMicro (payload : List Byte) : Nat → State → Result
  | 0, s => sendEnqueue payload s
  | 1, s => sendAssert s
  | _ + 2, _ => .fault .microStepRange

/-- R182. -/
def execSend (payload : List Byte) (s : State) : Result :=
  hostMicro (.send payload) true (sendMicro payload) s

/-- R183, p2. -/
def peekHead (s : State) : Result :=
  match qPeek s.cfg s.rxq s.draws with
  | .error f => .fault f
  | .ok none => .next (respond .done false [] s)
  | .ok (some p) =>
    let s' := fresh s
    .next (respond .done true (Packet.image p s.cfg s'.draws) (fresh s'))

/-- R183. -/
def execPeekEvent (s : State) : Result :=
  hostMicro .peekEvent true (pollThen .peekEvent peekHead) s

/-- R184, g2: the full test, the dequeue, the unmask check, the record and the response, one step. -/
def getHead (s : State) : Result :=
  match qDequeue s.cfg s.rxq s.draws with
  | .error f => .fault f
  | .ok none => .next (respond .done false [] (unmaskCheck false (qIsFull s.cfg s.rxq) s))
  | .ok (some (p, q)) =>
    let taken := unmaskCheck true (qIsFull s.cfg s.rxq) (fresh { s with rxq := q })
    let s' := emitDiag .rx p taken
    .next (respond .done true (Packet.image p s.cfg s'.draws) (fresh s'))

/-- R184. -/
def execGetEvent (s : State) : Result :=
  hostMicro .getEvent true (pollThen .getEvent getHead) s

/-- R185. -/
def execTxqEmpty (s : State) : Result :=
  hostMicro .txqEmpty true (oneMicroStep fun s => respond .done (qIsEmpty s.txq) [] s) s

/-- R186. -/
def execTxqFull (s : State) : Result :=
  hostMicro .txqFull true (oneMicroStep fun s => respond .done (qIsFull s.cfg s.txq) [] s) s

/-- R187. -/
def execRxqEmpty (s : State) : Result :=
  hostMicro .rxqEmpty true (oneMicroStep fun s => respond .done (qIsEmpty s.rxq) [] s) s

/-- R188. -/
def execRxqFull (s : State) : Result :=
  hostMicro .rxqFull true (oneMicroStep fun s => respond .done (qIsFull s.cfg s.rxq) [] s) s

/-- R189: no line state is written. -/
def execFlush (s : State) : Result :=
  hostMicro .flush true (oneMicroStep fun s => respond .done true [] (qFlush s)) s

/-- R190. -/
def execDebugSet (enable : Bool) (s : State) : Result :=
  hostMicro (.debugSet enable) false
    (oneMicroStep fun s => respond .done true [] { s with debugEn := enable }) s

/-- R90, R180, R213: refused before any other check but FATAL; no state changes. -/
def execIllegal (cmd : Byte) (operands : List Byte) (s : State) : Result :=
  hostMicro (.illegal cmd operands) false (oneMicroStep fun s => respond .illegal false [] s) s

end Sys2Proof.Machine
end

