-- ==== Sys2Proof/Machine/QueueOps.lean ====
section
/-! DEFINITION. The queue primitives as operations of their own (R100 to R106). What a primitive returns to its caller
stands in `primOk` and `primOut` (notes/assumptions/17.md). -/

namespace Sys2Proof.Machine

/-- R100. -/
def execQIsEmpty (q : QueueName) (s : State) : Result :=
  .next { s with primOk := qIsEmpty (s.queue q) }

/-- R101. -/
def execQIsFull (q : QueueName) (s : State) : Result :=
  .next { s with primOk := qIsFull s.cfg (s.queue q) }

/-- R102. -/
def execQInit (q : QueueName) (s : State) : Result :=
  .next (s.setQueue q (qInit s.cfg (s.queue q)))

/-- R103. -/
def execQEnqueue (q : QueueName) (status length : Byte) (payload : List Byte) (s : State) : Result :=
  match qEnqueue s.cfg (s.queue q) (Packet.ofBytes status length payload) s.draws with
  | .error f => .fault f
  | .ok none => .next { s with primOk := false }
  | .ok (some q') => .next (fresh ({ s with primOk := true }.setQueue q q'))

/-- R104. -/
def execQDequeue (q : QueueName) (dst : Option PacketReg) (s : State) : Result :=
  match qDequeue s.cfg (s.queue q) s.draws with
  | .error f => .fault f
  | .ok none => .next { s with primOk := false }
  | .ok (some (p, q')) =>
    let taken := fresh ({ s with primOk := true }.setQueue q q')
    match dst with
    | none => .next taken
    | some r => .next (taken.setPacket r p)

/-- R105. -/
def execQPeek (q : QueueName) (dst : PacketReg) (s : State) : Result :=
  match qPeek s.cfg (s.queue q) s.draws with
  | .error f => .fault f
  | .ok none => .next { s with primOk := false }
  | .ok (some p) => .next ((fresh { s with primOk := true }).setPacket dst p)

/-- R106. -/
def execQFlush (s : State) : Result := .next (qFlush s)

end Sys2Proof.Machine
end

