-- ==== Sys2Proof/Machine/System.lean ====
section
/-! DEFINITION. Hardware reset (R240) and the fatal exception as an operation of its own (R210). -/

namespace Sys2Proof.Machine

/-- R240: every element of R48 at its value; what R48 leaves unspecified is a free value. The service and the command in
progress are abandoned without an exchange and without a response. RDYN and the interfaces are no block state. -/
def hardReset (s : State) : State :=
  let v (n : Nat) : Byte := Config.freeByte (s.draws + n)
  { s with
    txq := Queue.atReset
    rxq := Queue.atReset
    mode := modeOfBit ((v 0).getLsbD 0)
    reqn := true
    rdyMask := false
    attached := false
    rdyPend := false
    svcSt := .sIdle
    txb := ⟨v 1, v 2, []⟩
    rxb := ⟨v 3, v 4, []⟩
    ld := v 5
    mb := v 6
    k := v 7
    fatal := false
    fatalCause := 0
    initDone := false
    debugEn := false
    hcmd := none
    draws := s.draws + 8 }

/-- R240. -/
def execRst (s : State) : Result := .next (hardReset s)

/-- R210. -/
def execFatal (cause : Byte) (s : State) : Result := .next (raiseFatal cause s)

end Sys2Proof.Machine
end

