-- ==== Sys2Proof/Machine/Transaction.lean ====
section
/-! DEFINITION. The transaction engine (R120 to R130). -/

namespace Sys2Proof.Machine

/-- R121. -/
def execSStart (s : State) : Result :=
  svcStep .sStart (fun s => .next { s with reqn := false, svcSt := .sFetch }) s

/-- R122: the outgoing packet, the null packet where TXQ is empty. -/
def fetchOutgoing (s : State) : Result :=
  match qDequeue s.cfg s.txq s.draws with
  | .error f => .fault f
  | .ok none => .next { s with txb := Packet.null, svcSt := .sHdr0 }
  | .ok (some (p, q)) => .next (fresh { s with txb := p, txq := q, svcSt := .sHdr0 })

/-- R122. -/
def execSFetch (s : State) : Result := svcStep .sFetch fetchOutgoing s

/-- R123: the received byte is discarded. -/
def execSHdr0 (s : State) : Result :=
  svcStep .sHdr0 (fun s => .next { (exchange (txframe s.txb s.draws 0) s).2 with svcSt := .sHdr1 }) s

/-- R124, R130: the device's length and the byte count. RXB's payload is unspecified until S_BODY writes it. -/
def headerLength (s : State) : State :=
  let (ld, s') := exchange (txframe s.txb s.draws 1) s
  let mb := maxBytes s.cfg s.txb.length.toNat ld.toNat
  { s' with
    ld := ld
    rxb := ⟨0, BitVec.ofNat 8 (min ld.toNat s.cfg.maxLen), []⟩
    mb := BitVec.ofNat 8 mb
    k := 0
    svcSt := if 0 < mb then .sBody else .sEnd }

/-- R124. -/
def execSHdr1 (s : State) : Result := svcStep .sHdr1 (fun s => .next (headerLength s)) s

/-- R126: one body exchange. R215: a model fault where K is not below MB, or MB is above MAX_LEN. -/
def bodyExchange (s : State) : Result :=
  if s.k.toNat < s.mb.toNat ∧ s.mb.toNat ≤ s.cfg.maxLen then
    let (r, s') := exchange (txframe s.txb s.draws (2 + s.k.toNat)) s
    .next { s' with
      rxb := { s.rxb with payload := Memory.write s.rxb.payload s.k.toNat r }
      k := s.k + 1
      svcSt := if s.k + 1 = s.mb then .sEnd else .sBody }
  else .fault .svcPrecondition

/-- R126. -/
def execSBody (s : State) : Result := svcStep .sBody bodyExchange s

/-- R128. -/
def execSEnd (s : State) : Result :=
  svcStep .sEnd (fun s => .next { s with reqn := true, svcSt := .sRearm }) s

/-- R129: in both modes (C5). -/
def execSRearm (s : State) : Result :=
  svcStep .sRearm
    (fun s => .next { s with reqn := if qIsEmpty s.txq then s.reqn else false, svcSt := .sPost }) s

end Sys2Proof.Machine
end

