-- ==== Sys2Proof/Machine/Dispatch.lean ====
section
/-! DEFINITION. One atomic step of each operation (R14). -/

namespace Sys2Proof.Machine

def exec (i : Instr) (s : State) : Host.Outcome State Fault Refusal :=
  match i with
  -- host commands (44_host_api.md): one micro-step
  | .init mode => Sys2Proof.Machine.execInit mode s
  | .send payload => Sys2Proof.Machine.execSend payload s
  | .peekEvent => Sys2Proof.Machine.execPeekEvent s
  | .getEvent => Sys2Proof.Machine.execGetEvent s
  | .txqEmpty => Sys2Proof.Machine.execTxqEmpty s
  | .txqFull => Sys2Proof.Machine.execTxqFull s
  | .rxqEmpty => Sys2Proof.Machine.execRxqEmpty s
  | .rxqFull => Sys2Proof.Machine.execRxqFull s
  | .flush => Sys2Proof.Machine.execFlush s
  | .debugSet enable => Sys2Proof.Machine.execDebugSet enable s
  | .illegal cmd operands => Sys2Proof.Machine.execIllegal cmd operands s
  -- queue primitives (40_queue.md)
  | .qIsEmpty q => Sys2Proof.Machine.execQIsEmpty q s
  | .qIsFull q => Sys2Proof.Machine.execQIsFull q s
  | .qInit q => Sys2Proof.Machine.execQInit q s
  | .qEnqueue q status length payload => Sys2Proof.Machine.execQEnqueue q status length payload s
  | .qDequeue q dst => Sys2Proof.Machine.execQDequeue q dst s
  | .qPeek q dst => Sys2Proof.Machine.execQPeek q dst s
  | .qFlush => Sys2Proof.Machine.execQFlush s
  -- transaction engine (41_transaction.md)
  | .sStart => Sys2Proof.Machine.execSStart s
  | .sFetch => Sys2Proof.Machine.execSFetch s
  | .sHdr0 => Sys2Proof.Machine.execSHdr0 s
  | .sHdr1 => Sys2Proof.Machine.execSHdr1 s
  | .sBody => Sys2Proof.Machine.execSBody s
  | .sEnd => Sys2Proof.Machine.execSEnd s
  | .sRearm => Sys2Proof.Machine.execSRearm s
  -- line monitor and interrupt bridge (42_bridge.md)
  | .svcStart => Sys2Proof.Machine.execSvcStart s
  | .sEntry => Sys2Proof.Machine.execSEntry s
  | .sPost => Sys2Proof.Machine.execSPost s
  | .sExit => Sys2Proof.Machine.execSExit s
  | .pollCheck => Sys2Proof.Machine.execPollCheck s
  | .devRdyn level => Sys2Proof.Machine.execDevRdyn level s
  -- flow controller (43_flow_control.md)
  | .maskCheck => Sys2Proof.Machine.execMaskCheck s
  | .unmaskCheck ok wasFull => Sys2Proof.Machine.execUnmaskCheck ok wasFull s
  -- reset and the fatal exception (70_reset_and_hazards.md, 60_exceptions.md)
  | .rst => Sys2Proof.Machine.execRst s
  | .fatal cause => Sys2Proof.Machine.execFatal cause s

end Sys2Proof.Machine
end

