-- ==== Sys2Proof/Machine/Schedule.lean ====
section
/-! DEFINITION. Which operation the next step runs (R12 to R17): the agent whose turn it is, and that agent's own next
operation. -/

namespace Sys2Proof.Machine

/-- The agent that moves next: the first listed turn, a free value where none is listed. -/
def currentTurn (s : State) : Turn := s.turns.head?.getD (Config.freeTurn s.draws)

/-- The state with that turn taken. -/
def popTurn (s : State) : State :=
  match s.turns with
  | [] => { s with draws := s.draws + 1 }
  | _ :: rest => { s with turns := rest }

/-- R12, R44: HOST's next operation: the command in progress, or a new one from the command port, and the state with the
new command's bytes taken from the port. Nothing where HOST is not enabled or no whole command is on the port. -/
def hostOperation (s : State) : Option Instr × State :=
  if hostEnabled s then
    match s.hcmd with
    | some h => (some h.instr, s)
    | none =>
      match decode s.cmdPort with
      | .ok (i, rest) => (some i, { s with cmdPort := rest })
      | .error _ => (none, s)
  else (none, s)

/-- R38: the step that SVC_ST names. -/
def svcInstr : SvcState → Option Instr
  | .sIdle => some .svcStart
  | .sEntry => some .sEntry
  | .sStart => some .sStart
  | .sFetch => some .sFetch
  | .sHdr0 => some .sHdr0
  | .sHdr1 => some .sHdr1
  | .sBody => some .sBody
  | .sEnd => some .sEnd
  | .sRearm => some .sRearm
  | .sPost => some .sPost
  | .sExit => some .sExit
  | .sFatal => none

/-- R18, R38: SVC's next operation; none in the fatal state. -/
def svcOperation (s : State) : Option Instr :=
  if s.fatal then none else svcInstr s.svcSt

/-- The operation of the agent whose turn it is, and the state it runs in. -/
def agentOperation (t : Turn) (s : State) : Option Instr × State :=
  match t with
  | .host => hostOperation s
  | .svc => (svcOperation s, s)
  | .dev level => (some (.devRdyn level), s)
  | .rst => (some .rst, s)

/-- What the next step runs. -/
def nextOperation (s : State) : Option Instr × State := agentOperation (currentTurn s) (popTurn s)

/-- `s` with the bytes of a command put at the front of the command port, and HOST free to take it at the next turn. -/
def offerCommand (bytes : List Byte) (s : State) : State :=
  { s with
    cmdPort := bytes ++ s.cmdPort
    turns := .host :: s.turns
    hcmd := none
    svcSt := .sIdle
    fatal := false }

end Sys2Proof.Machine
end

