-- ==== Sys2Proof/Machine/Step.lean ====
section
/-! DEFINITION. One step of the machine: one atomic step of one agent (R14, R69). Where the agent whose turn it is has no
enabled step, the turn passes and nothing else changes (R18, R226). -/

namespace Sys2Proof.Machine

def step (s : State) : Host.Outcome State Fault Refusal :=
  match nextOperation s with
  | (some i, s') => exec i s'
  | (none, s') => .next s'

/-- The command whose bits below `nbits` are `w`, at the front of the command port, with the next turn HOST's and HOST
free to take it (notes/assumptions/23.md). -/
def State.withFetchWord (s : State) (nbits w : Nat) : State := offerCommand (tableBytes nbits w) s

end Sys2Proof.Machine
end

