-- ==== Sys2Proof/Safety.lean ====
section
/-! DEFINITION. The terms in which claims are stated: the occupied slots of a queue and what they hold (R49, R107, R70),
when a packet is fully defined, which operation a step runs, and the invariant of the running machine (R49, R148, R163,
R165, R214). -/

namespace Sys2Proof

/-- R183, R184: the two commands that poll. -/
def Instr.polls (i : Instr) : Bool := i == .peekEvent || i == .getEvent

end Sys2Proof

namespace Sys2Proof.Machine

/-- R107: `count(q) = (tail - head) mod QDEPTH`. -/
def Queue.count (c : Config) (q : Queue) : Nat := (q.tail + c.qdepth - q.head) % c.qdepth

/-- The slot of the n-th oldest entry (R31, R49). -/
def Queue.slotOf (c : Config) (q : Queue) (n : Nat) : Nat := (q.head + n) % c.qdepth

/-- R10: `MemRead(q, i, k)`, `none` for a byte never written (R68). -/
def Queue.slotByte (c : Config) (q : Queue) (i k : Nat) : Option Byte :=
  Memory.read q.mem (slotAddr c i k)

/-- Slot i holds a packet: status 0, a length of at most MAX_LEN, and its payload bytes written (R49). -/
def Queue.Holds (c : Config) (q : Queue) (i : Nat) : Prop :=
  Queue.slotByte c q i 0 = some 0 ∧
    ∃ length : Byte, Queue.slotByte c q i 1 = some length ∧ length.toNat ≤ c.maxLen ∧
      ∀ j < length.toNat, (Queue.slotByte c q i (2 + j)).isSome

/-- R49: a queue's indices are in range, its storage is canonical and its occupied slots hold packets. -/
structure Queue.Wf (c : Config) (q : Queue) : Prop where
  headInRange : q.head < c.qdepth
  tailInRange : q.tail < c.qdepth
  canonical : Memory.wf q.mem = true
  occupied : ∀ n < Queue.count c q, Queue.Holds c q (Queue.slotOf c q n)

/-- The payload of the n-th oldest entry, byte by byte. -/
def Queue.entry (c : Config) (q : Queue) (n : Nat) : List (Option Byte) :=
  let i := Queue.slotOf c q n
  let length := ((Queue.slotByte c q i 1).map BitVec.toNat).getD 0
  (List.range length).map fun j => Queue.slotByte c q i (2 + j)

/-- R70: the queue as a list of payloads, oldest first. -/
def Queue.contents (c : Config) (q : Queue) : List (List (Option Byte)) :=
  (List.range (Queue.count c q)).map (Queue.entry c q)

/-- R32: a packet whose length is at most MAX_LEN and whose payload bytes below its length are all defined. -/
structure Packet.Defined (c : Config) (p : Packet) : Prop where
  lengthBounded : p.length.toNat ≤ c.maxLen
  written : ∀ j < p.length.toNat, (Memory.read p.payload j).isSome

/-- Every store of the state is in canonical form. -/
abbrev State.Canonical (s : State) : Prop :=
  Memory.wf s.txq.mem = true ∧ Memory.wf s.rxq.mem = true ∧ Memory.wf s.txb.payload = true ∧
    Memory.wf s.rxb.payload = true ∧ Memory.wf s.primOut.payload = true

/-- The service has started and has not yet queued its result. -/
def SvcState.beforePost : SvcState → Bool
  | .sEntry | .sStart | .sFetch | .sHdr0 | .sHdr1 | .sBody | .sEnd | .sRearm | .sPost => true
  | .sIdle | .sExit | .sFatal => false

/-- The states from S_FETCH to S_END, in which REQN is asserted (R121, R128). -/
def SvcState.requesting : SvcState → Bool
  | .sFetch | .sHdr0 | .sHdr1 | .sBody | .sEnd => true
  | .sIdle | .sEntry | .sStart | .sRearm | .sPost | .sExit | .sFatal => false

/-- The states that send bytes of TXB (R123, R124, R126). -/
def SvcState.sending : SvcState → Bool
  | .sHdr0 | .sHdr1 | .sBody => true
  | .sIdle | .sEntry | .sStart | .sFetch | .sEnd | .sRearm | .sPost | .sExit | .sFatal => false

/-- The states after the last exchange and before the result is queued (R128, R129, R144). -/
def SvcState.received : SvcState → Bool
  | .sEnd | .sRearm | .sPost => true
  | .sIdle | .sEntry | .sStart | .sFetch | .sHdr0 | .sHdr1 | .sBody | .sExit | .sFatal => false

/-- What a command between two of its micro-steps looks like (R44, R191): SEND between s1 and s2, or PEEK_EVENT or
GET_EVENT after its poll, during the inline service too (R218). -/
def HostCommand.Between (s : State) (h : HostCommand) : Prop :=
  h.step = 1 ∧
    ((∃ payload, h.instr = .send payload ∧ h.ok = true) ∨ (h.instr.polls = true ∧ s.mode = .polled))

/-- The invariant of the machine. No field speaks of the interfaces or of the model's own fields but `primOut`. -/
structure State.Inv (s : State) : Prop where
  /-- R6, R7. -/
  parameters : s.cfg.Wf
  /-- R49. -/
  outgoing : s.txq.Wf s.cfg
  /-- R49. -/
  incoming : s.rxq.Wf s.cfg
  /-- The canonical form of every store. -/
  stores : s.Canonical
  /-- R214. -/
  notFatal : s.fatal = false ∧ s.fatalCause = 0 ∧ s.svcSt ≠ .sFatal
  /-- R241. -/
  beforeInit : s.initDone = false →
    s.reqn = true ∧ s.rdyMask = false ∧ s.attached = false ∧ s.rdyPend = false ∧ s.svcSt = .sIdle ∧ s.hcmd = none
  /-- R165(a). -/
  fullIsMasked : s.initDone = true → s.mode = .edge → qIsFull s.cfg s.rxq = true → s.rdyMask = true
  /-- R36, R143, R145. -/
  edgeAttached : s.initDone = true → s.mode = .edge →
    (s.attached = true ↔ s.svcSt = .sIdle ∨ s.svcSt = .sEntry)
  /-- R165, R181, R216: POLLED mode has no interrupt. -/
  polledQuiet : s.initDone = true → s.mode = .polled →
    s.rdyMask = false ∧ s.attached = false ∧ s.rdyPend = false ∧ s.svcSt ≠ .sEntry
  /-- R148(b), (c). -/
  room : s.svcSt.beforePost = true → qIsFull s.cfg s.rxq = false ∧ s.rdyMask = false
  /-- R161, R165: a mask set before the return from a service is the mask of a full RXQ. -/
  maskedAtExit : s.svcSt = .sExit → s.rdyMask = true → qIsFull s.cfg s.rxq = true
  /-- R16, R218: in POLLED mode a service runs only inside a polling command, which stays at its poll. -/
  inlineService : s.initDone = true → s.mode = .polled → s.svcSt ≠ .sIdle →
    ∃ h, s.hcmd = some h ∧ h.instr.polls = true ∧ h.current = 0
  /-- R44, R191. -/
  command : ∀ h, s.hcmd = some h → h.Between s
  /-- R122: the outgoing packet is defined while it is sent. -/
  outPacket : s.svcSt.sending = true → s.txb.Defined s.cfg
  /-- R49, R130: the incoming packet's status and length, and MB. -/
  inPacket : s.svcSt = .sBody ∨ s.svcSt.received = true →
    s.rxb.status = 0 ∧ s.rxb.length.toNat ≤ s.mb.toNat ∧ s.mb.toNat ≤ s.cfg.maxLen ∧
      ∀ j < s.k.toNat, (Memory.read s.rxb.payload j).isSome
  /-- R126: K is below MB in S_BODY. -/
  bodyCount : s.svcSt = .sBody → s.k.toNat < s.mb.toNat
  /-- R126: K is MB after the last body exchange. -/
  bodyDone : s.svcSt.received = true → s.k = s.mb
  /-- R121, R128, R163: REQN is asserted from S_START to S_END and deasserted at S_REARM. -/
  requestLine : (s.svcSt.requesting = true → s.reqn = false) ∧ (s.svcSt = .sRearm → s.reqn = true)

/-- R244(a), R165(c): the receive stall, EDGE mode with the mask set and RXQ not full. -/
def State.Stalled (s : State) : Prop :=
  s.initDone = true ∧ s.mode = .edge ∧ s.svcSt = .sIdle ∧ s.rdyMask = true ∧ qIsFull s.cfg s.rxq = false

/-- HOST is free to issue a command (R12, R15, R16, R18). -/
abbrev State.Accepts (s : State) : Prop := s.fatal = false ∧ s.svcSt = .sIdle ∧ s.hcmd = none

/-- A micro-step of PEEK_EVENT or GET_EVENT (`i`) after its poll is due: the first micro-step in EDGE mode, the one
after the poll in any mode (R183, R184, R191), also where the poll started a service, which leaves HCMD as it is (R219). -/
abbrev State.AtEffect (s : State) (i : Instr) : Prop :=
  s.fatal = false ∧ s.svcSt = .sIdle ∧
    ((s.hcmd = none ∧ s.initDone = true ∧ s.mode = .edge) ∨ s.hcmd = some ⟨i, 0, false⟩)

/-- R146: the request line and the service state after a poll. -/
def State.Polled (s : State) (reqn : Bool) (svcSt : SvcState) : Prop :=
  (qIsFull s.cfg s.rxq = true → reqn = s.reqn ∧ svcSt = s.svcSt) ∧
  (qIsFull s.cfg s.rxq = false → s.rdyn = true → s.txq.head = s.txq.tail → reqn = s.reqn ∧ svcSt = s.svcSt) ∧
  (qIsFull s.cfg s.rxq = false → s.rdyn = true → s.txq.head ≠ s.txq.tail → reqn = false ∧ svcSt = s.svcSt) ∧
  (qIsFull s.cfg s.rxq = false → s.rdyn = false → reqn = s.reqn ∧ svcSt = .sStart)

/-- R65(a), R103: queue `q'` is `q` with one packet stored at its tail: the status byte 0, the length byte and the
payload bytes below the length written, no other byte changed, head kept and tail moved on. -/
def Queue.Stored (c : Config) (q q' : Queue) (length : Byte) (byte : Nat → Option Byte) : Prop :=
  q'.head = q.head ∧ q'.tail = (q.tail + 1) % c.qdepth ∧
  Queue.slotByte c q' q.tail 0 = some 0 ∧ Queue.slotByte c q' q.tail 1 = some length ∧
  (∀ j < length.toNat, Queue.slotByte c q' q.tail (2 + j) = byte j) ∧
  ∀ a, a < slotAddr c q.tail 0 ∨ slotAddr c q.tail (2 + length.toNat) ≤ a →
    Memory.read q'.mem a = Memory.read q.mem a

/-- R102: queue `q'` is `q` emptied: both indices 0, every length byte 0, no other byte changed. -/
def Queue.Emptied (c : Config) (q q' : Queue) : Prop :=
  q'.head = 0 ∧ q'.tail = 0 ∧ (∀ i < c.qdepth, Queue.slotByte c q' i 1 = some 0) ∧
  ∀ a, (∀ i < c.qdepth, a ≠ slotAddr c i 1) → Memory.read q'.mem a = Memory.read q.mem a

/-- R104, R105: packet `p` is what slot i of `q` holds: its status, its length and the payload bytes below it. -/
def Queue.Copied (c : Config) (q : Queue) (i : Nat) (p : Packet) : Prop :=
  some p.status = Queue.slotByte c q i 0 ∧ some p.length = Queue.slotByte c q i 1 ∧
  ∀ j < p.length.toNat, Memory.read p.payload j = Queue.slotByte c q i (2 + j)

/-- R88: `b` is the byte that the block sends at transfer position `k` for the outgoing packet `p`. -/
def Packet.FrameByte (p : Packet) (k : Nat) (b : Byte) : Prop :=
  (k = 0 → b = p.length) ∧
  (1 ≤ k → k ≤ p.length.toNat → Memory.read p.payload (k - 1) = some b) ∧
  (p.length.toNat < k → b = 0)

/-- R10, R13: `r` is the byte DEV answers with: the first listed answer, any byte where none is listed. -/
def State.Answers (s : State) (r : Byte) : Prop := s.devAnswers = [] ∨ s.devAnswers.head? = some r

/-- R86: `data` is the image of slot i of `q`. The bytes past the length are any (R68). -/
def Queue.ImageOf (c : Config) (q : Queue) (i : Nat) (data : List Byte) : Prop :=
  data.length = 2 + c.maxLen ∧ data[0]? = Queue.slotByte c q i 0 ∧ data[1]? = Queue.slotByte c q i 1 ∧
  ∀ length : Byte, Queue.slotByte c q i 1 = some length →
    ∀ j < length.toNat, data[2 + j]? = Queue.slotByte c q i (2 + j)

/-- The operation that the next step of `s` runs. -/
def State.runs (s : State) : Option Instr := (nextOperation s).1

/-- Operations one after another, as a harness outside the machine would run them. -/
def execAll : List Instr → State → Result
  | [], s => .next s
  | i :: rest, s =>
    match exec i s with
    | .next t => execAll rest t
    | .fault f => .fault f
    | .refused r => .refused r

end Sys2Proof.Machine
end

