-- ==== Sys2Proof/Certificates/Slice0/Obligations.lean ====
section
/-! DEFINITION. The statements for the provers. A state written `{ s with … }` is a whole frame: every field not named is
unchanged, and with a queue not named every byte of its storage. `draws` numbers the model's free values and is left open
wherever a step may draw (notes/assumptions/4.md). -/

open Sys2Proof Sys2Proof.Machine

/-! ### Encoding (30_encoding.md) -/

/-- R81 to R84, R91: decoding the bytes of a well-formed command gives the command and the bytes after it. -/
def Obligations.DecodeEncodeAgree : Prop :=
  ∀ (i : Instr) (bs rest : List Byte), i.wf = true → encode i = some bs → decode (bs ++ rest) = .ok (i, rest)

/-- R81, R83, R90: the bytes that decoding takes are the encoding of the command it gives, which is well-formed. -/
def Obligations.DecodeTakesExactlyTheEncoding : Prop :=
  ∀ (bs rest : List Byte) (i : Instr), decode bs = .ok (i, rest) →
    i.wf = true ∧ ∃ taken, encode i = some taken ∧ bs = taken ++ rest

/-- R90: exactly the four grounds refuse a command; the refusal consumes the operand bytes of its OP, answers 0x02
and changes no state, before INIT too. -/
def Obligations.ReservedWordsAreRefused : Prop :=
  ∀ (cmd : Byte) (bs rest : List Byte) (i : Instr), decode (cmd :: bs) = .ok (i, rest) →
    ((∃ operands, i = .illegal cmd operands) ↔
      cmd.toNat % 16 = 0 ∨ 11 ≤ cmd.toNat % 16 ∨ cmd.toNat / 16 ≠ 0 ∨
        ((cmd.toNat % 16 = 1 ∨ cmd.toNat % 16 = 10) ∧ ∃ b, bs.head? = some b ∧ b.toNat / 2 ≠ 0)) ∧
    (∀ c operands, i = .illegal c operands → c = cmd ∧ bs = operands ++ rest ∧
      operandsFit (cmd.toNat % 16) operands = true ∧
      ∀ s : State, s.Accepts → exec i s = .next { s with responses := s.responses ++ [⟨0x02, []⟩] })

/-- R91: how many bytes a command takes. That a command of which bytes are missing is not read, and waits, is the
model's choice (notes/assumptions/10.md). -/
def Obligations.CommandLengthByOpcode : Prop :=
  ∀ (cmd : Byte) (bs : List Byte),
    (cmd.toNat % 16 = 1 ∨ cmd.toNat % 16 = 10 →
      (bs = [] → decode (cmd :: bs) = .error .truncated) ∧
      (bs ≠ [] → ∃ i, decode (cmd :: bs) = .ok (i, bs.drop 1))) ∧
    (cmd.toNat % 16 = 2 →
      (bs = [] → decode (cmd :: bs) = .error .truncated) ∧
      ∀ len more, bs = len :: more →
        (more.length < len.toNat → decode (cmd :: bs) = .error .truncated) ∧
        (len.toNat ≤ more.length → ∃ i, decode (cmd :: bs) = .ok (i, more.drop len.toNat))) ∧
    (cmd.toNat % 16 ≠ 1 → cmd.toNat % 16 ≠ 10 → cmd.toNat % 16 ≠ 2 → ∃ i, decode (cmd :: bs) = .ok (i, bs))

/-- R84, R92, and the vectors of 95_test_vectors.md: words written out from the encoding decode to their commands.
-/
def Obligations.SampleWordsDecode : Prop :=
  decode [0x01, 0x00] = .ok (.init .polled, []) ∧ decode [0x01, 0x01] = .ok (.init .edge, []) ∧
  decode [0x02, 0x02, 0xAA, 0xBB, 0x04] = .ok (.send [0xAA, 0xBB], [0x04]) ∧
  decode [0x03] = .ok (.peekEvent, []) ∧ decode [0x04] = .ok (.getEvent, []) ∧
  decode [0x05] = .ok (.txqEmpty, []) ∧ decode [0x09] = .ok (.flush, []) ∧
  decode [0x0A, 0x01] = .ok (.debugSet true, []) ∧ decode [0x0B] = .ok (.illegal 0x0B [], []) ∧
  decode [0x12, 0x03, 0xAA, 0xBB, 0xCC] = .ok (.illegal 0x12 [0x03, 0xAA, 0xBB, 0xCC], [])

/-- R85: the response word is 0x00, 0x01, 0x02 or 0x04: RESULT is bit 0, CODE is bits 2:1, the rest is 0. -/
def Obligations.ResponseWordFields : Prop :=
  ∀ (code : Code) (result : Bool), (respWord code result).getLsbD 0 = result ∧
    (respWord code result).toNat / 2 = (match code with | .done => 0 | .illegal => 1 | .notInit => 2)

/-! ### One step (00_scope.md) -/

/-- R12, R44, R80: where HOST's turn comes, HOST is free and the port holds a whole command, the step runs that
command with its bytes taken from the port. -/
def Obligations.StepRunsDecodedCommand : Prop :=
  ∀ (s : State) (turns : List Turn) (i : Instr) (rest : List Byte),
    s.turns = .host :: turns → s.Accepts → decode s.cmdPort = .ok (i, rest) →
    step s = exec i { s with turns := turns, cmdPort := rest }

/-- R44, R191: where a command is in progress, HOST's turn runs its next micro-step. -/
def Obligations.StepContinuesCommand : Prop :=
  ∀ (s : State) (turns : List Turn) (h : HostCommand),
    s.turns = .host :: turns → s.fatal = false → s.svcSt = .sIdle → s.hcmd = some h →
    step s = exec h.instr { s with turns := turns }

/-- R13, R14, R38, R142, R240: SVC's turn runs the step that SVC_ST names, and the start where SVC is idle; DEV's
turn and the reset input run at any boundary, whatever the state. -/
def Obligations.StepRunsServiceDeviceReset : Prop :=
  ∀ (s : State) (turns : List Turn) (level : Bool) (i : Instr),
    (s.turns = .svc :: turns → s.fatal = false → svcInstr s.svcSt = some i →
      step s = exec i { s with turns := turns }) ∧
    (s.turns = .dev level :: turns → step s = exec (.devRdyn level) { s with turns := turns }) ∧
    (s.turns = .rst :: turns → step s = exec .rst { s with turns := turns })

/-- R15, R16, R18, R226: HOST's turn passes during a service, after a fatal and where no whole command waits; SVC's
turn passes after a fatal. -/
def Obligations.StepPassesDisabledTurn : Prop :=
  ∀ (s : State) (turns : List Turn),
    (s.turns = .host :: turns → s.fatal = true ∨ s.svcSt ≠ .sIdle → step s = .next { s with turns := turns }) ∧
    (∀ e, s.turns = .host :: turns → s.hcmd = none → decode s.cmdPort = .error e →
      step s = .next { s with turns := turns }) ∧
    (s.turns = .svc :: turns → s.fatal = true → step s = .next { s with turns := turns })

/-- R13, R15: past the listed turns any agent may move (the model's choice of form: notes/assumptions/2.md). -/
def Obligations.StepTakesFreeTurn : Prop :=
  ∀ s : State, s.turns = [] →
    step s = step { s with turns := [Config.freeTurn s.draws], draws := s.draws + 1 }

/-! ### Reset (10_state.md, 70_reset_and_hazards.md) -/

/-- R48: the state after hardware reset: every value that R48 states, and no defined byte in any slot. -/
def Obligations.ResetValues : Prop :=
  State.reset.txq.head = 0 ∧ State.reset.txq.tail = 0 ∧ State.reset.rxq.head = 0 ∧ State.reset.rxq.tail = 0 ∧
  State.reset.reqn = true ∧ State.reset.rdyMask = false ∧ State.reset.attached = false ∧
  State.reset.rdyPend = false ∧ State.reset.svcSt = .sIdle ∧ State.reset.fatal = false ∧
  State.reset.fatalCause = 0 ∧ State.reset.initDone = false ∧ State.reset.debugEn = false ∧
  State.reset.hcmd = none ∧
  ∀ a, Memory.read State.reset.txq.mem a = none ∧ Memory.read State.reset.rxq.mem a = none

/-- R240: RST in any state, the fatal one and a running service included, sets every value of R48, leaves no slot
byte defined, and makes no exchange and no response. That the interfaces keep their bytes is the model's choice
(notes/assumptions/8.md). -/
def Obligations.RstEstablishesReset : Prop :=
  ∀ s : State, ∃ t, exec .rst s = .next t ∧
    t.txq.head = 0 ∧ t.txq.tail = 0 ∧ t.rxq.head = 0 ∧ t.rxq.tail = 0 ∧
    (∀ a, Memory.read t.txq.mem a = none ∧ Memory.read t.rxq.mem a = none) ∧
    t = { s with
      txq := t.txq, rxq := t.rxq, mode := t.mode, reqn := true, rdyMask := false, attached := false
      rdyPend := false, svcSt := .sIdle, txb := t.txb, rxb := t.rxb, ld := t.ld, mb := t.mb, k := t.k
      fatal := false, fatalCause := 0, initDone := false, debugEn := false, hcmd := none, draws := t.draws }

/-! ### Queue primitives (40_queue.md). Their return value stands in primOk, the caller's packet in primOut, both the
model's own fields (notes/assumptions/17.md). -/

/-- R100, R101: the occupancy predicates write nothing, and never hold together. -/
def Obligations.OccupancyPredicates : Prop :=
  ∀ (q : QueueName) (s : State),
    exec (.qIsEmpty q) s = .next { s with primOk := decide ((s.queue q).head = (s.queue q).tail) } ∧
    exec (.qIsFull q) s =
      .next { s with primOk := decide (((s.queue q).tail + 1) % s.cfg.qdepth = (s.queue q).head) } ∧
    (s.cfg.Wf → (s.queue q).Wf s.cfg → ¬(qIsEmpty (s.queue q) = true ∧ qIsFull s.cfg (s.queue q) = true))

/-- R102: Q_INIT. -/
def Obligations.QInitZeroesEveryLength : Prop :=
  ∀ (q : QueueName) (s : State), ∃ t, exec (.qInit q) s = .next t ∧
    (s.queue q).Emptied s.cfg (t.queue q) ∧ t = s.setQueue q (t.queue q) ∧
    (Memory.wf (s.queue q).mem = true → exec (.qInit q) t = .next t)

/-- R106: Q_FLUSH empties both queues, writes no line state, and doing it twice is doing it once. -/
def Obligations.QFlushEmptiesBothQueues : Prop :=
  ∀ s : State, ∃ t, exec .qFlush s = .next t ∧
    s.txq.Emptied s.cfg t.txq ∧ s.rxq.Emptied s.cfg t.rxq ∧ t = { s with txq := t.txq, rxq := t.rxq } ∧
    (Memory.wf s.txq.mem = true → Memory.wf s.rxq.mem = true → exec .qFlush t = .next t)

/-- R103, R65(a): a successful Q_ENQUEUE. -/
def Obligations.QEnqueueStoresPacket : Prop :=
  ∀ (q : QueueName) (status length : Byte) (payload : List Byte) (s : State),
    payload.length = length.toNat → length.toNat ≤ s.cfg.maxLen →
    qIsFull s.cfg (s.queue q) = false → (s.queue q).tail < s.cfg.qdepth →
    ∃ t, exec (.qEnqueue q status length payload) s = .next t ∧
      (s.queue q).Stored s.cfg (t.queue q) length (fun j => payload[j]?) ∧
      t = { s.setQueue q (t.queue q) with primOk := true, draws := t.draws }

/-- R103, R215: a full queue takes nothing; a length above MAX_LEN is the model fault Q_OVERLEN. -/
def Obligations.QEnqueueFailures : Prop :=
  ∀ (q : QueueName) (status length : Byte) (payload : List Byte) (s : State),
    (length.toNat ≤ s.cfg.maxLen → qIsFull s.cfg (s.queue q) = true →
      exec (.qEnqueue q status length payload) s = .next { s with primOk := false }) ∧
    (s.cfg.maxLen < length.toNat → exec (.qEnqueue q status length payload) s = .fault .qOverlen)

/-- R104: Q_DEQUEUE into each packet register, and with no destination. -/
def Obligations.QDequeueTakesHead : Prop :=
  ∀ (q : QueueName) (dst : Option PacketReg) (s : State),
    ((s.queue q).head = (s.queue q).tail → exec (.qDequeue q dst) s = .next { s with primOk := false }) ∧
    ((s.queue q).head ≠ (s.queue q).tail → (s.queue q).head < s.cfg.qdepth →
      (s.queue q).Holds s.cfg (s.queue q).head →
      ∃ p d, (s.queue q).Copied s.cfg (s.queue q).head p ∧
        exec (.qDequeue q dst) s = .next
          (let taken := { s.setQueue q
              { s.queue q with head := ((s.queue q).head + 1) % s.cfg.qdepth } with primOk := true, draws := d }
           match dst with
           | none => taken
           | some r => taken.setPacket r p))

/-- R105: Q_PEEK writes its destination and neither index nor slot. -/
def Obligations.QPeekReadsHead : Prop :=
  ∀ (q : QueueName) (dst : PacketReg) (s : State),
    ((s.queue q).head = (s.queue q).tail → exec (.qPeek q dst) s = .next { s with primOk := false }) ∧
    ((s.queue q).head ≠ (s.queue q).tail → (s.queue q).head < s.cfg.qdepth →
      (s.queue q).Holds s.cfg (s.queue q).head →
      ∃ p d, (s.queue q).Copied s.cfg (s.queue q).head p ∧
        exec (.qPeek q dst) s = .next ({ s with primOk := true, draws := d }.setPacket dst p))

/-- The spec's own inference R107: the occupancy count of a queue with its indices in range, under every primitive
on it. -/
def Obligations.QueueCountLaw : Prop :=
  ∀ (q : QueueName) (s t : State), s.cfg.Wf → (s.queue q).Wf s.cfg →
    (s.queue q).count s.cfg ≤ s.cfg.qdepth - 1 ∧
    (qIsEmpty (s.queue q) = true ↔ (s.queue q).count s.cfg = 0) ∧
    (qIsFull s.cfg (s.queue q) = true ↔ (s.queue q).count s.cfg = s.cfg.qdepth - 1) ∧
    (∀ st len payload, exec (.qEnqueue q st len payload) s = .next t →
      (t.queue q).count t.cfg = (s.queue q).count s.cfg + (if t.primOk then 1 else 0)) ∧
    (∀ dst, exec (.qDequeue q dst) s = .next t →
      (t.queue q).count t.cfg + (if t.primOk then 1 else 0) = (s.queue q).count s.cfg) ∧
    (∀ dst, exec (.qPeek q dst) s = .next t → (t.queue q).count t.cfg = (s.queue q).count s.cfg) ∧
    (exec (.qInit q) s = .next t → (t.queue q).count t.cfg = 0)

/-- The spec's own inferences R70 and R108: an enqueue appends its payload to the queue read as a list of payloads,
a dequeue takes the oldest, and both keep the queue's invariant. -/
def Obligations.QueueRefinesList : Prop :=
  ∀ (q : QueueName) (s t : State), s.cfg.Wf → (s.queue q).Wf s.cfg →
    (∀ st len payload, payload.length = len.toNat → exec (.qEnqueue q st len payload) s = .next t →
      t.primOk = true →
      (t.queue q).Wf t.cfg ∧
      (t.queue q).contents t.cfg = (s.queue q).contents s.cfg ++ [payload.map some]) ∧
    (∀ dst, exec (.qDequeue q dst) s = .next t → t.primOk = true →
      (t.queue q).Wf t.cfg ∧
      ∃ oldest, (s.queue q).contents s.cfg = oldest :: (t.queue q).contents t.cfg)

/-- The spec's own inferences R70 and R108: k packets enqueued into an empty queue come back in order, each with
status 0, its length and its payload. -/
def Obligations.QueueRoundTripFifo : Prop :=
  ∀ (q : QueueName) (s : State) (ps : List (Byte × List Byte)), s.cfg.Wf → (s.queue q).Wf s.cfg →
    (s.queue q).head = (s.queue q).tail → ps.length < s.cfg.qdepth →
    (∀ p ∈ ps, p.2.length ≤ s.cfg.maxLen) →
    ∀ (k : Nat) (status : Byte) (payload : List Byte), ps[k]? = some (status, payload) →
      ∃ t, execAll
          (ps.map (fun p => .qEnqueue q p.1 (BitVec.ofNat 8 p.2.length) p.2) ++
            List.replicate (k + 1) (.qDequeue q (some .out))) s = .next t ∧
        t.primOk = true ∧ t.primOut.status = 0 ∧ t.primOut.length = BitVec.ofNat 8 payload.length ∧
        ∀ j < payload.length, Memory.read t.primOut.payload j = payload[j]?

/-! ### Transaction engine (41_transaction.md) -/

/-- R121, R128, R129: the three steps that write the request line. -/
def Obligations.TransactionLineSteps : Prop :=
  ∀ s : State, s.fatal = false →
    (s.svcSt = .sStart → exec .sStart s = .next { s with reqn := false, svcSt := .sFetch }) ∧
    (s.svcSt = .sEnd → exec .sEnd s = .next { s with reqn := true, svcSt := .sRearm }) ∧
    (s.svcSt = .sRearm → s.txq.head = s.txq.tail → exec .sRearm s = .next { s with svcSt := .sPost }) ∧
    (s.svcSt = .sRearm → s.txq.head ≠ s.txq.tail →
      exec .sRearm s = .next { s with reqn := false, svcSt := .sPost })

/-- R122: S_FETCH takes the head packet of TXQ, or the null packet where TXQ is empty. -/
def Obligations.FetchTakesOutgoingPacket : Prop :=
  ∀ s : State, s.fatal = false → s.svcSt = .sFetch →
    (s.txq.head = s.txq.tail →
      ∃ p, p.status = 0 ∧ p.length = 0 ∧ exec .sFetch s = .next { s with txb := p, svcSt := .sHdr0 }) ∧
    (s.txq.head ≠ s.txq.tail → s.txq.head < s.cfg.qdepth → s.txq.Holds s.cfg s.txq.head →
      ∃ p d, s.txq.Copied s.cfg s.txq.head p ∧
        exec .sFetch s = .next { s with
          txb := p, txq := { s.txq with head := (s.txq.head + 1) % s.cfg.qdepth }
          svcSt := .sHdr0, draws := d })

/-- R123, R124, R130: the two header exchanges. -/
def Obligations.HeaderExchanges : Prop :=
  ∀ s : State, s.fatal = false → s.cfg.Wf → s.txb.Defined s.cfg →
    (s.svcSt = .sHdr0 → ∃ r d, s.Answers r ∧
      exec .sHdr0 s = .next { s with
        devAnswers := s.devAnswers.tail, wire := s.wire ++ [⟨s.txb.length, r⟩], svcSt := .sHdr1, draws := d }) ∧
    (s.svcSt = .sHdr1 → ∃ ld mb b d p, s.Answers ld ∧ s.txb.FrameByte 1 b ∧
      mb.toNat = min (if s.txb.length.toNat = 0 then ld.toNat else max ld.toNat (s.txb.length.toNat - 1)) s.cfg.maxLen ∧
      p.status = 0 ∧ p.length.toNat = min ld.toNat s.cfg.maxLen ∧
      exec .sHdr1 s = .next { s with
        devAnswers := s.devAnswers.tail, wire := s.wire ++ [⟨b, ld⟩], ld := ld, rxb := p, mb := mb, k := 0
        svcSt := if mb = 0 then .sEnd else .sBody, draws := d })

/-- R126: one body exchange. -/
def Obligations.BodyExchangeStoresByte : Prop :=
  ∀ s : State, s.fatal = false → s.svcSt = .sBody → s.txb.Defined s.cfg →
    s.k.toNat < s.mb.toNat → s.mb.toNat ≤ s.cfg.maxLen →
    ∃ r b d payload, s.Answers r ∧ s.txb.FrameByte (2 + s.k.toNat) b ∧
      Memory.read payload s.k.toNat = some r ∧
      (∀ j, j ≠ s.k.toNat → Memory.read payload j = Memory.read s.rxb.payload j) ∧
      exec .sBody s = .next { s with
        devAnswers := s.devAnswers.tail, wire := s.wire ++ [⟨b, r⟩], rxb := { s.rxb with payload := payload }
        k := s.k + 1, svcSt := if s.k + 1 = s.mb then .sEnd else .sBody, draws := d }

/-- R125: the count's formula, and the spec's own inference from it: the count covers the outgoing frame and all
that the device declared within MAX_LEN. -/
def Obligations.MaxBytesRule : Prop :=
  ∀ (c : Config) (lh ld : Nat),
    (lh = 0 → maxBytes c lh ld = min ld c.maxLen) ∧
    (lh ≠ 0 → maxBytes c lh ld = min (max ld (lh - 1)) c.maxLen) ∧
    (lh ≤ c.maxLen → lh - 1 ≤ maxBytes c lh ld) ∧ min ld c.maxLen ≤ maxBytes c lh ld

/-- R215: a step of the service sequence taken where SVC_ST does not name it, or after a fatal, is a model fault; so
is S_BODY with K not below MB, and S_ENTRY outside EDGE mode (notes/assumptions/14.md). -/
def Obligations.ServiceStepOutOfPlaceFaults : Prop :=
  ∀ (s : State) (st : SvcState) (i : Instr), svcInstr st = some i → st ≠ .sIdle →
    (s.svcSt ≠ st ∨ s.fatal = true → exec i s = .fault .svcPrecondition) ∧
    (s.svcSt = .sBody → s.mb.toNat ≤ s.k.toNat → exec .sBody s = .fault .svcPrecondition) ∧
    (s.svcSt = .sEntry → s.mode = .polled → exec .sEntry s = .fault .svcPrecondition)

/-- The model faults of states that no run reaches, all of them the model's choice (notes/assumptions/9.md, 13.md,
14.md): an index outside the storage, a length above MAX_LEN in RXB, a micro-step past the command's list. -/
def Obligations.OutOfRangeStateFaults : Prop :=
  ∀ s : State,
    (∀ q status length payload, length.toNat ≤ s.cfg.maxLen → qIsFull s.cfg (s.queue q) = false →
      s.cfg.qdepth ≤ (s.queue q).tail → exec (.qEnqueue q status length payload) s = .fault .slotRange) ∧
    (∀ q, (s.queue q).head ≠ (s.queue q).tail → s.cfg.qdepth ≤ (s.queue q).head →
      (∀ dst, exec (.qDequeue q dst) s = .fault .slotRange) ∧ ∀ dst, exec (.qPeek q dst) s = .fault .slotRange) ∧
    (s.fatal = false → s.svcSt = .sFetch → s.txq.head ≠ s.txq.tail → s.cfg.qdepth ≤ s.txq.head →
      exec .sFetch s = .fault .slotRange) ∧
    (s.fatal = false → s.svcSt = .sPost → s.cfg.maxLen < s.rxb.length.toNat → exec .sPost s = .fault .qOverlen) ∧
    (∀ i n ok, (encode i).isSome = true → s.fatal = false → s.svcSt = .sIdle → s.hcmd = some ⟨i, n + 1, ok⟩ →
      exec i s = .fault .microStepRange)

/-- The spec's own inference R127, with R87, R88 and R130: a transaction from its first header exchange makes
exactly 2 + MB exchanges, sends the outgoing frame and then zeros, and assembles RXB from the answers. -/
def Obligations.TransactionExchangesFrames : Prop :=
  ∀ (s : State) (r0 ld : Byte) (body more : List Byte) (turns : List Turn) (mb : Nat),
    s.cfg.Wf → s.fatal = false → s.svcSt = .sHdr0 → s.txb.Defined s.cfg →
    mb = maxBytes s.cfg s.txb.length.toNat ld.toNat → body.length = mb →
    s.devAnswers = r0 :: ld :: (body ++ more) → s.turns = List.replicate (2 + mb) .svc ++ turns →
    ∃ t sent, Host.Core.run Sys2Proof.core (2 + mb) s = .next t ∧
      sent.length = 2 + mb ∧ (∀ k b, sent[k]? = some b → s.txb.FrameByte k b) ∧
      t.rxb.status = 0 ∧ t.rxb.length.toNat = min ld.toNat s.cfg.maxLen ∧
      (∀ j < mb, Memory.read t.rxb.payload j = body[j]?) ∧
      t = { s with
        svcSt := .sEnd, wire := s.wire ++ List.zipWith Exchange.mk sent (r0 :: ld :: body), devAnswers := more
        turns := turns, rxb := t.rxb, ld := ld, mb := BitVec.ofNat 8 mb, k := BitVec.ofNat 8 mb, draws := t.draws }

/-! ### Bridge (42_bridge.md) and the fatal exception (60_exceptions.md) -/

/-- R142: a service starts exactly where all the conditions hold. Elsewhere nothing happens
(notes/assumptions/15.md). -/
def Obligations.ServiceStartCondition : Prop :=
  ∀ s : State,
    ((s.mode = .edge ∧ s.initDone = true ∧ s.fatal = false ∧ s.svcSt = .sIdle ∧ s.rdyPend = true ∧
        s.attached = true ∧ s.rdyMask = false) → exec .svcStart s = .next { s with svcSt := .sEntry }) ∧
    (¬(s.mode = .edge ∧ s.initDone = true ∧ s.fatal = false ∧ s.svcSt = .sIdle ∧ s.rdyPend = true ∧
        s.attached = true ∧ s.rdyMask = false) → exec .svcStart s = .next s)

/-- R143, R145, R219: entry to the service handler and return from it. -/
def Obligations.ServiceEntryAndReturn : Prop :=
  ∀ s : State, s.fatal = false →
    (s.svcSt = .sEntry → s.mode = .edge →
      exec .sEntry s = .next { s with attached := false, rdyPend := false, svcSt := .sStart }) ∧
    (s.svcSt = .sExit → s.mode = .edge → exec .sExit s = .next { s with attached := true, svcSt := .sIdle }) ∧
    (s.svcSt = .sExit → s.mode = .polled → exec .sExit s = .next { s with svcSt := .sIdle })

/-- R144, R161: S_POST with room in RXQ queues a packet of non-zero length and masks at saturation in EDGE mode; an
idle marker queues nothing. -/
def Obligations.PostQueuesResult : Prop :=
  ∀ s : State, s.fatal = false → s.svcSt = .sPost →
    (s.rxb.length = 0 → exec .sPost s = .next { s with svcSt := .sExit }) ∧
    (s.rxb.length ≠ 0 → s.rxb.Defined s.cfg → qIsFull s.cfg s.rxq = false → s.rxq.tail < s.cfg.qdepth →
      ∃ t, exec .sPost s = .next t ∧
        s.rxq.Stored s.cfg t.rxq s.rxb.length (fun j => Memory.read s.rxb.payload j) ∧
        t.rdyMask = (s.rdyMask || (decide (s.mode = .edge) && qIsFull s.cfg t.rxq)) ∧
        t = { s with rxq := t.rxq, rdyMask := t.rdyMask, svcSt := .sExit, draws := t.draws })

/-- R144, R210, R211: what raising Fatal writes: FATAL, its cause and S_FATAL, and nothing else; S_POST with RXQ full
raises it with the cause RXQ_OVERFLOW. That FATAL as an operation of its own raises any cause in any state is the model's
reading (notes/assumptions/29.md): R211 reserves every cause but RXQ_OVERFLOW. -/
def Obligations.RaisingFatalSetsFatalState : Prop :=
  ∀ (cause : Byte) (s : State),
    exec (.fatal cause) s = .next { s with fatal := true, fatalCause := cause, svcSt := .sFatal } ∧
    (s.fatal = false → s.svcSt = .sPost → s.rxb.length ≠ 0 → s.rxb.length.toNat ≤ s.cfg.maxLen →
      qIsFull s.cfg s.rxq = true →
      exec .sPost s = .next { s with fatal := true, fatalCause := 0x01, svcSt := .sFatal })

/-- R210, R18, R249: after a fatal a step either is a reset or changes at most the level that DEV drives. -/
def Obligations.FatalIsAbsorbing : Prop :=
  ∀ s t : State, s.fatal = true → step s = .next t →
    s.runs = some .rst ∨ t = { s with rdyn := t.rdyn, turns := t.turns, draws := t.draws }

/-- R146, R241: POLL_CHECK after INIT, in POLLED mode, with HOST free; before INIT it starts no service and writes no line.
That it changes nothing in the other cases either, EDGE mode, a service, a fatal, a command in progress, is the model's
reading (notes/assumptions/16.md). -/
def Obligations.PollCheckRule : Prop :=
  ∀ s : State,
    (s.initDone = true → s.mode = .polled → s.Accepts →
      ∃ reqn svcSt, s.Polled reqn svcSt ∧ exec .pollCheck s = .next { s with reqn := reqn, svcSt := svcSt }) ∧
    (s.initDone = false ∨ s.mode = .edge ∨ ¬s.Accepts → exec .pollCheck s = .next s)

/-- R141: a ready-line change, and the latch of a falling edge while running in EDGE mode. -/
def Obligations.ReadyLineEdgeLatch : Prop :=
  ∀ (v : Bool) (s : State),
    ((s.rdyn = true ∧ v = false ∧ s.initDone = true ∧ s.fatal = false ∧ s.mode = .edge) →
      exec (.devRdyn v) s = .next { s with rdyn := v, rdyPend := true }) ∧
    (¬(s.rdyn = true ∧ v = false ∧ s.initDone = true ∧ s.fatal = false ∧ s.mode = .edge) →
      exec (.devRdyn v) s = .next { s with rdyn := v })

/-! ### Flow controller (43_flow_control.md) -/

/-- R161, R162: the mask check and the unmask check. -/
def Obligations.MaskAndUnmask : Prop :=
  ∀ (ok wasFull : Bool) (s : State),
    (s.mode = .edge → qIsFull s.cfg s.rxq = true → exec .maskCheck s = .next { s with rdyMask := true }) ∧
    (s.mode = .polled ∨ qIsFull s.cfg s.rxq = false → exec .maskCheck s = .next s) ∧
    (ok = true → wasFull = true → s.mode = .edge →
      exec (.unmaskCheck ok wasFull) s = .next { s with rdyMask := false }) ∧
    (ok = false ∨ wasFull = false ∨ s.mode = .polled → exec (.unmaskCheck ok wasFull) s = .next s)

/-! ### Host commands (44_host_api.md) -/

/-- R181: INIT in any state in which HOST may issue it, before and after the first one. The descriptor's form, that
each INIT brings its own, and the empty one where HOST presents none are the model's choice (notes/assumptions/20.md). -/
def Obligations.InitEstablishesLink : Prop :=
  ∀ (mode : Mode) (s : State), s.Accepts →
    ∃ t, exec (.init mode) s = .next t ∧ s.txq.Emptied s.cfg t.txq ∧ s.rxq.Emptied s.cfg t.rxq ∧
      t = { s with
        txq := t.txq, rxq := t.rxq, mode := mode, reqn := true, rdyMask := false, rdyPend := false
        attached := decide (mode = .edge), initDone := true, pincfg := s.pincfg.tail
        pincfgOut := s.pincfgOut ++ [s.pincfg.head?.getD []], responses := s.responses ++ [⟨0x01, []⟩] }

/-- R182, R190: SEND's s1 with room in TXQ queues the packet and keeps the command in progress for s2. -/
def Obligations.SendQueuesPacket : Prop :=
  ∀ (payload : List Byte) (s : State), s.cfg.Wf → s.Accepts → s.initDone = true →
    payload.length ≤ s.cfg.maxLen → qIsFull s.cfg s.txq = false → s.txq.tail < s.cfg.qdepth →
    ∃ t, exec (.send payload) s = .next t ∧
      s.txq.Stored s.cfg t.txq (BitVec.ofNat 8 payload.length) (fun j => payload[j]?) ∧
      t = { s with
        txq := t.txq, hcmd := some ⟨.send payload, 0, true⟩, draws := t.draws
        diag := if s.debugEn then s.diag ++ [⟨.tx, BitVec.ofNat 8 payload.length, payload⟩] else s.diag }

/-- R182: SEND's s2 asserts the request line and answers 0x01. -/
def Obligations.SendAssertsRequest : Prop :=
  ∀ (payload : List Byte) (s : State), s.fatal = false → s.svcSt = .sIdle →
    s.hcmd = some ⟨.send payload, 0, true⟩ →
    exec (.send payload) s =
      .next { s with reqn := false, hcmd := none, responses := s.responses ++ [⟨0x01, []⟩] }

/-- R182, R212: a packet that is too long, and a packet for a full TXQ, are answered 0x00 and change nothing. -/
def Obligations.SendRejects : Prop :=
  ∀ (payload : List Byte) (s : State), s.cfg.Wf → s.Accepts → s.initDone = true →
    s.cfg.maxLen < payload.length ∨ qIsFull s.cfg s.txq = true →
    exec (.send payload) s = .next { s with responses := s.responses ++ [⟨0x00, []⟩] }

/-- R183, R184, R146: in POLLED mode the first micro-step of PEEK_EVENT and of GET_EVENT is the poll. HCMD is then at it
(R218), index 0, and HCMD.step is 1 (R44): how the two rules go together is the model's reading
(notes/assumptions/12.md). -/
def Obligations.PollingCommandsPollFirst : Prop :=
  ∀ (i : Instr) (s : State), i = .peekEvent ∨ i = .getEvent → s.Accepts → s.initDone = true →
    s.mode = .polled →
    ∃ reqn svcSt, s.Polled reqn svcSt ∧
      exec i s = .next { s with reqn := reqn, svcSt := svcSt, hcmd := some ⟨i, 0, false⟩ } ∧
      HostCommand.step ⟨i, 0, false⟩ = 1

/-- R183, R86: PEEK_EVENT's p2 answers with the head entry of RXQ and removes nothing. -/
def Obligations.PeekEventReturnsHead : Prop :=
  ∀ s : State, s.AtEffect .peekEvent →
    (s.rxq.head = s.rxq.tail →
      exec .peekEvent s = .next { s with hcmd := none, responses := s.responses ++ [⟨0x00, []⟩] }) ∧
    (s.rxq.head ≠ s.rxq.tail → s.rxq.head < s.cfg.qdepth → s.rxq.Holds s.cfg s.rxq.head →
      ∃ data d, s.rxq.ImageOf s.cfg s.rxq.head data ∧
        exec .peekEvent s =
          .next { s with hcmd := none, responses := s.responses ++ [⟨0x01, data⟩], draws := d })

/-- R184, R162, R190: GET_EVENT's g2 removes the head entry of RXQ, answers with it, and in EDGE mode unmasks where
RXQ was full. -/
def Obligations.GetEventRemovesHead : Prop :=
  ∀ s : State, s.AtEffect .getEvent →
    (s.rxq.head = s.rxq.tail →
      exec .getEvent s = .next { s with hcmd := none, responses := s.responses ++ [⟨0x00, []⟩] }) ∧
    (s.rxq.head ≠ s.rxq.tail → s.rxq.head < s.cfg.qdepth → s.rxq.Holds s.cfg s.rxq.head →
      ∃ data length d, s.rxq.ImageOf s.cfg s.rxq.head data ∧
        s.rxq.slotByte s.cfg s.rxq.head 1 = some length ∧
        exec .getEvent s = .next { s with
          rxq := { s.rxq with head := (s.rxq.head + 1) % s.cfg.qdepth }
          rdyMask := if s.mode = .edge ∧ qIsFull s.cfg s.rxq = true then false else s.rdyMask
          diag := if s.debugEn then s.diag ++ [⟨.rx, length, (data.drop 2).take length.toNat⟩] else s.diag
          hcmd := none, responses := s.responses ++ [⟨0x01, data⟩], draws := d })

/-- R185, R186, R187, R188: the four predicates poll nothing and change nothing. -/
def Obligations.PredicateCommandsAnswer : Prop :=
  ∀ s : State, s.Accepts → s.initDone = true →
    exec .txqEmpty s = .next { s with
      responses := s.responses ++ [⟨if s.txq.head = s.txq.tail then 0x01 else 0x00, []⟩] } ∧
    exec .txqFull s = .next { s with
      responses := s.responses ++ [⟨if (s.txq.tail + 1) % s.cfg.qdepth = s.txq.head then 0x01 else 0x00, []⟩] } ∧
    exec .rxqEmpty s = .next { s with
      responses := s.responses ++ [⟨if s.rxq.head = s.rxq.tail then 0x01 else 0x00, []⟩] } ∧
    exec .rxqFull s = .next { s with
      responses := s.responses ++ [⟨if (s.rxq.tail + 1) % s.cfg.qdepth = s.rxq.head then 0x01 else 0x00, []⟩] }

/-- R189, R190: FLUSH empties both queues and writes no line state; DEBUG_SET writes DEBUG_EN, before INIT too. -/
def Obligations.FlushAndDebugSet : Prop :=
  ∀ (enable : Bool) (s : State), s.Accepts →
    (s.initDone = true → ∃ t, exec .flush s = .next t ∧ s.txq.Emptied s.cfg t.txq ∧ s.rxq.Emptied s.cfg t.rxq ∧
      t = { s with txq := t.txq, rxq := t.rxq, responses := s.responses ++ [⟨0x01, []⟩] }) ∧
    exec (.debugSet enable) s =
      .next { s with debugEn := enable, responses := s.responses ++ [⟨0x01, []⟩] }

/-- R180, R213, R241: before INIT every command but INIT, DEBUG_SET and a refused encoding is answered 0x04. -/
def Obligations.NotInitRefusal : Prop :=
  ∀ (i : Instr) (s : State), (encode i).isSome = true → (∀ m, i ≠ .init m) → (∀ e, i ≠ .debugSet e) →
    (∀ c ops, i ≠ .illegal c ops) → s.Accepts → s.initDone = false →
    exec i s = .next { s with responses := s.responses ++ [⟨0x04, []⟩] }

/-- R12, R15, R16, R18, R210: a command waits, with no response, during a service, after a fatal, and while another
command is in progress (notes/assumptions/11.md). -/
def Obligations.HostCommandWaits : Prop :=
  ∀ (i : Instr) (s : State), (encode i).isSome = true →
    (s.fatal = true ∨ s.svcSt ≠ .sIdle ∨ ∃ h, s.hcmd = some h ∧ h.instr ≠ i) → exec i s = .next s

/-! ### The whole machine -/

/-- R33, R36, R37, R40, R41, R42, R43, R216: which operations write each mode, status and interrupt bit. -/
def Obligations.StatusWriters : Prop :=
  ∀ (i : Instr) (s t : State), exec i s = .next t →
    t.cfg = s.cfg ∧
    (t.mode ≠ s.mode → i = .init t.mode ∨ i = .rst) ∧
    (t.initDone ≠ s.initDone → (∃ m, i = .init m) ∨ i = .rst) ∧
    (t.debugEn ≠ s.debugEn → i = .debugSet t.debugEn ∨ i = .rst) ∧
    (t.attached ≠ s.attached → i = .sEntry ∨ i = .sExit ∨ (∃ m, i = .init m) ∨ i = .rst) ∧
    (t.rdyPend ≠ s.rdyPend → i = .devRdyn false ∨ i = .sEntry ∨ (∃ m, i = .init m) ∨ i = .rst) ∧
    (t.rdyn ≠ s.rdyn → i = .devRdyn t.rdyn) ∧
    (t.fatal ≠ s.fatal → i = .sPost ∨ (∃ c, i = .fatal c) ∨ i = .rst) ∧
    (s.fatal = true → t.fatal = false → i = .rst)

/-- The spec's own inference R163: the request-line map. Nothing else writes REQN. -/
def Obligations.RequestLineMap : Prop :=
  ∀ (i : Instr) (s t : State), exec i s = .next t → t.reqn ≠ s.reqn →
    (i = .sStart ∧ t.reqn = false) ∨ (i = .sEnd ∧ t.reqn = true) ∨
    (i = .sRearm ∧ qIsEmpty s.txq = false ∧ t.reqn = false) ∨
    ((i = .pollCheck ∨ i = .peekEvent ∨ i = .getEvent) ∧ s.mode = .polled ∧ qIsFull s.cfg s.rxq = false ∧
      s.rdyn = true ∧ qIsEmpty s.txq = false ∧ t.reqn = false) ∨
    (∃ payload, i = .send payload ∧ s.hcmd = some ⟨.send payload, 0, true⟩ ∧ t.reqn = false) ∨
    ((∃ m, i = .init m) ∧ t.reqn = true) ∨ (i = .rst ∧ t.reqn = true)

/-- R161, R162 and the spec's own inference R166: the mask is set only by the check that finds RXQ full in EDGE
mode, and cleared only by a GET_EVENT from a full RXQ in EDGE mode, the unmask check, INIT and reset. -/
def Obligations.MaskWriters : Prop :=
  ∀ (i : Instr) (s t : State), exec i s = .next t → t.rdyMask ≠ s.rdyMask →
    (t.rdyMask = true ∧ (i = .sPost ∨ i = .maskCheck) ∧ s.mode = .edge ∧ qIsFull t.cfg t.rxq = true) ∨
    (t.rdyMask = false ∧
      ((i = .getEvent ∧ s.mode = .edge ∧ qIsFull s.cfg s.rxq = true) ∨
        (i = .unmaskCheck true true ∧ s.mode = .edge) ∨ (∃ m, i = .init m) ∨ i = .rst))

/-- R31, R45, R75: which operations write each queue and each service packet register. -/
def Obligations.QueueWriters : Prop :=
  ∀ (i : Instr) (s t : State), exec i s = .next t →
    (t.txq ≠ s.txq →
      (∃ p, i = .send p) ∨ i = .sFetch ∨ (∃ m, i = .init m) ∨ i = .flush ∨ i = .rst ∨ i = .qFlush ∨
        i = .qInit .tx ∨ (∃ st len p, i = .qEnqueue .tx st len p) ∨ ∃ dst, i = .qDequeue .tx dst) ∧
    (t.rxq ≠ s.rxq →
      i = .sPost ∨ i = .getEvent ∨ (∃ m, i = .init m) ∨ i = .flush ∨ i = .rst ∨ i = .qFlush ∨
        i = .qInit .rx ∨ (∃ st len p, i = .qEnqueue .rx st len p) ∨ ∃ dst, i = .qDequeue .rx dst) ∧
    (t.txb ≠ s.txb →
      i = .sFetch ∨ i = .rst ∨ (∃ q, i = .qDequeue q (some .txb)) ∨ ∃ q, i = .qPeek q .txb) ∧
    (t.rxb ≠ s.rxb →
      i = .sHdr1 ∨ i = .sBody ∨ i = .rst ∨ (∃ q, i = .qDequeue q (some .rxb)) ∨ ∃ q, i = .qPeek q .rxb)

/-- R43, R190: DEBUG_EN and the records emitted have no effect on anything else. -/
def Obligations.DebugHasNoOtherEffect : Prop :=
  ∀ (i : Instr) (s : State) (enable : Bool) (records : List DiagRecord), (∀ e, i ≠ .debugSet e) →
    match exec i s, exec i { s with debugEn := enable, diag := records } with
    | .next t, .next u => u = { t with debugEn := u.debugEn, diag := u.diag }
    | .fault f, .fault g => f = g
    | .refused r, .refused r' => r = r'
    | _, _ => False

/-- Every step keeps every store in canonical form. The form, cells in strictly rising address order, is the model's own
(notes/assumptions/30.md, on the addresses of 9.md and the unwritten bytes of 4.md); the spec gives the bytes (R60). -/
def Obligations.CanonicalStoresKept : Prop :=
  ∀ s t : State, s.Canonical → step s = .next t → t.Canonical

/-- The invariant holds after reset. It includes the model's own reset values where R48 states none
(notes/assumptions/1.md, 5.md, 6.md), and holds whatever they are within the bounds of R6 and R7. -/
def Obligations.ResetHasInvariant : Prop := State.reset.Inv

/-- The spec's own inferences R148, R163 and R165, with R49: every step keeps the invariant. -/
def Obligations.StepKeepsInvariant : Prop :=
  ∀ s t : State, s.Inv → step s = .next t → t.Inv

/-- The spec's own inference R214: no run from a state with the invariant stops or reaches the fatal state. -/
def Obligations.FatalIsUnreachable : Prop :=
  ∀ (n : Nat) (s : State), s.Inv →
    ∃ t, Host.Core.run Sys2Proof.core n s = .next t ∧ t.Inv ∧ t.fatal = false ∧ t.fatalCause = 0

/-- The spec's own inferences R165(b), R165(c) and R244(a): in EDGE mode the receive stall is entered only by FLUSH,
and lasts until INIT or a reset. -/
def Obligations.ReceiveStallEvents : Prop :=
  ∀ s t : State, s.Inv → step s = .next t →
    (t.Stalled → s.Stalled ∨ s.runs = some .flush) ∧
    (s.Stalled → t.Stalled ∨ (∃ m, s.runs = some (.init m)) ∨ s.runs = some .rst)
end

