-- ==== Sys2Proof/Laws/Memory.lean ====
section
/-! SUPPORT. The laws of the byte store: what a read gives after each operation, and that each operation keeps the
canonical form. -/

namespace Sys2Proof.Machine

@[simp] theorem Memory.read_nil (a : Nat) : Memory.read [] a = none := rfl

@[simp] theorem Memory.wf_nil : Memory.wf [] = true := rfl

@[simp] theorem Memory.read_write_same (m : Memory) (a : Nat) (b : Byte) :
    Memory.read (Memory.write m a b) a = some b := by
  induction m with
  | nil => simp [Memory.write, Memory.read]
  | cons cell rest ih =>
    obtain ⟨x, c⟩ := cell
    unfold Memory.write
    split
    · simp [Memory.read]
    · split
      · simp [Memory.read]
      · have hx : x ≠ a := fun h => by omega
        simp [Memory.read, hx, ih]

theorem Memory.read_write_other (m : Memory) {a x : Nat} (b : Byte) (h : x ≠ a) :
    Memory.read (Memory.write m a b) x = Memory.read m x := by
  induction m with
  | nil => simp [Memory.write, Memory.read, h.symm]
  | cons cell rest ih =>
    obtain ⟨y, c⟩ := cell
    unfold Memory.write
    split
    · simp [Memory.read, h.symm]
    · split
      · rename_i hay
        subst hay
        simp [Memory.read, h.symm]
      · simp [Memory.read, ih]

theorem Memory.risesAbove_write {lo a : Nat} {m : Memory} (b : Byte)
    (hm : Memory.risesAbove lo m = true) (ha : lo < a) :
    Memory.risesAbove lo (Memory.write m a b) = true := by
  induction m generalizing lo with
  | nil => simp [Memory.write, Memory.risesAbove, ha]
  | cons cell rest ih =>
    obtain ⟨x, c⟩ := cell
    simp only [Memory.risesAbove, Bool.and_eq_true, decide_eq_true_eq] at hm
    unfold Memory.write
    split
    · simp_all [Memory.risesAbove]
    · split
      · rename_i hax
        subst hax
        simp_all [Memory.risesAbove]
      · have hxa : x < a := by omega
        simp [Memory.risesAbove, hm.1, ih hm.2 hxa]

theorem Memory.wf_write {m : Memory} (a : Nat) (b : Byte) (hm : Memory.wf m = true) :
    Memory.wf (Memory.write m a b) = true := by
  cases m with
  | nil => rfl
  | cons cell rest =>
    obtain ⟨x, c⟩ := cell
    simp only [Memory.wf] at hm
    unfold Memory.write
    split
    · simp_all [Memory.wf, Memory.risesAbove]
    · split
      · rename_i hax
        subst hax
        simpa [Memory.wf] using hm
      · simpa [Memory.wf] using Memory.risesAbove_write b hm (by omega)

theorem Memory.wf_writeList {m : Memory} (a : Nat) (bs : List Byte) (hm : Memory.wf m = true) :
    Memory.wf (Memory.writeList m a bs) = true := by
  induction bs generalizing m a with
  | nil => exact hm
  | cons b bs ih => exact ih (a + 1) (Memory.wf_write a b hm)

/-- What a read gives after a run of bytes has been written. -/
theorem Memory.read_writeList (m : Memory) (a : Nat) (bs : List Byte) (x : Nat) :
    Memory.read (Memory.writeList m a bs) x =
      if a ≤ x ∧ x < a + bs.length then bs[x - a]? else Memory.read m x := by
  induction bs generalizing m a with
  | nil =>
    have h : ¬(a ≤ x ∧ x < a + ([] : List Byte).length) := by simp
    rw [if_neg h]; rfl
  | cons b bs ih =>
    rw [Memory.writeList, ih]
    by_cases hx : x = a
    · subst hx
      simp
    · rw [Memory.read_write_other _ _ hx]
      by_cases hin : a + 1 ≤ x ∧ x < a + 1 + bs.length
      · have h2 : a ≤ x ∧ x < a + (b :: bs).length := by simp; omega
        rw [if_pos hin, if_pos h2]
        have h3 : x - a = (x - (a + 1)) + 1 := by omega
        rw [h3]; simp
      · have h2 : ¬(a ≤ x ∧ x < a + (b :: bs).length) := by simp; omega
        rw [if_neg hin, if_neg h2]

theorem Memory.read_ofList (a : Nat) (bs : List Byte) (x : Nat) :
    Memory.read (Memory.ofList a bs) x = if a ≤ x then bs[x - a]? else none := by
  induction bs generalizing a with
  | nil => simp [Memory.ofList]
  | cons b bs ih =>
    simp only [Memory.ofList, Memory.read]
    by_cases hx : a = x
    · subst hx; simp
    · rw [if_neg hx, ih]
      by_cases h1 : a + 1 ≤ x
      · have h3 : x - a = (x - (a + 1)) + 1 := by omega
        rw [if_pos h1, if_pos (by omega), h3]; simp
      · rw [if_neg h1, if_neg (by omega)]

theorem Memory.risesAbove_ofList {lo a : Nat} (bs : List Byte) (h : lo < a) :
    Memory.risesAbove lo (Memory.ofList a bs) = true := by
  induction bs generalizing lo a with
  | nil => rfl
  | cons b bs ih => simp [Memory.ofList, Memory.risesAbove, h, ih (Nat.lt_succ_self a)]

@[simp] theorem Memory.wf_ofList (a : Nat) (bs : List Byte) :
    Memory.wf (Memory.ofList a bs) = true := by
  cases bs with
  | nil => rfl
  | cons b bs => exact Memory.risesAbove_ofList bs (Nat.lt_succ_self a)

/-- What a read gives in the moved cells of a range. -/
theorem Memory.read_slice (m : Memory) (base dst n x : Nat) :
    Memory.read (Memory.slice m base dst n) x =
      if dst ≤ x ∧ x < dst + n then Memory.read m (base + (x - dst)) else none := by
  induction n generalizing base dst with
  | zero =>
    have h : ¬(dst ≤ x ∧ x < dst + 0) := by omega
    rw [if_neg h]; rfl
  | succ n ih =>
    have htail : x ≠ dst → Memory.read (Memory.slice m (base + 1) (dst + 1) n) x =
        if dst ≤ x ∧ x < dst + (n + 1) then Memory.read m (base + (x - dst)) else none := by
      intro hx
      rw [ih]
      by_cases hin : dst + 1 ≤ x ∧ x < dst + 1 + n
      · rw [if_pos hin, if_pos (by omega)]
        congr 1; omega
      · rw [if_neg hin, if_neg (by omega)]
    unfold Memory.slice
    by_cases hx : x = dst
    · subst hx
      split <;> rename_i h
      · simp [Memory.read, h]
      · rw [ih, if_neg (by omega), if_pos (by omega)]; simp [h]
    · split
      · simp only [Memory.read]
        rw [if_neg (Ne.symm hx)]; exact htail hx
      · exact htail hx

theorem Memory.risesAbove_slice (m : Memory) {lo : Nat} (base : Nat) {dst : Nat} (n : Nat) (h : lo < dst) :
    Memory.risesAbove lo (Memory.slice m base dst n) = true := by
  induction n generalizing lo base dst with
  | zero => rfl
  | succ n ih =>
    unfold Memory.slice
    split
    · simp [Memory.risesAbove, h, ih (base + 1) (Nat.lt_succ_self dst)]
    · exact ih (base + 1) (by omega)

@[simp] theorem Memory.wf_slice (m : Memory) (base dst n : Nat) :
    Memory.wf (Memory.slice m base dst n) = true := by
  induction n generalizing base dst with
  | zero => rfl
  | succ n ih =>
    unfold Memory.slice
    split
    · exact Memory.risesAbove_slice m (base + 1) n (Nat.lt_succ_self dst)
    · exact ih (base + 1) (dst + 1)

/-- No address at or below `lo` is listed in cells that rise above it. -/
theorem Memory.read_of_risesAbove {lo : Nat} {m : Memory} (h : Memory.risesAbove lo m = true) {a : Nat}
    (ha : a ≤ lo) : Memory.read m a = none := by
  induction m generalizing lo with
  | nil => rfl
  | cons cell rest ih =>
    obtain ⟨x, b⟩ := cell
    simp only [Memory.risesAbove, Bool.and_eq_true, decide_eq_true_eq] at h
    rw [Memory.read, if_neg (by omega)]
    exact ih h.2 (by omega)

theorem Memory.wf_of_risesAbove {lo : Nat} {m : Memory} (h : Memory.risesAbove lo m = true) :
    Memory.wf m = true := by
  cases m with
  | nil => rfl
  | cons cell rest =>
    obtain ⟨x, b⟩ := cell
    simp only [Memory.risesAbove, Bool.and_eq_true] at h
    exact h.2

/-- Canonical stores that read the same at every address are the same data. -/
theorem Memory.eq_of_read_eq {m n : Memory} (hm : Memory.wf m = true) (hn : Memory.wf n = true)
    (h : ∀ a, Memory.read m a = Memory.read n a) : m = n := by
  induction m generalizing n with
  | nil =>
    cases n with
    | nil => rfl
    | cons cell rest =>
      obtain ⟨x, b⟩ := cell
      simpa [Memory.read] using h x
  | cons cell rest ih =>
    obtain ⟨x, b⟩ := cell
    cases n with
    | nil => simpa [Memory.read] using h x
    | cons cell' rest' =>
      obtain ⟨y, d⟩ := cell'
      simp only [Memory.wf] at hm hn
      have hxy : x = y := by
        rcases Nat.lt_trichotomy x y with hlt | heq | hlt
        · have := h x
          rw [Memory.read, if_pos rfl, Memory.read, if_neg (by omega),
            Memory.read_of_risesAbove hn (by omega)] at this
          cases this
        · exact heq
        · have := h y
          rw [Memory.read, if_neg (by omega), Memory.read_of_risesAbove hm (by omega), Memory.read,
            if_pos rfl] at this
          cases this
      subst hxy
      have hbd : b = d := by simpa [Memory.read] using h x
      subst hbd
      have hrest : rest = rest' := by
        apply ih (Memory.wf_of_risesAbove hm) (Memory.wf_of_risesAbove hn)
        intro a
        by_cases hax : x = a
        · subst hax
          rw [Memory.read_of_risesAbove hm (Nat.le_refl _), Memory.read_of_risesAbove hn (Nat.le_refl _)]
        · simpa [Memory.read, hax] using h a
      rw [hrest]

theorem wf_zeroLengths (c : Config) (n : Nat) {m : Memory} (hm : Memory.wf m = true) :
    Memory.wf (zeroLengths c n m) = true := by
  induction n with
  | zero => exact hm
  | succ n ih => exact Memory.wf_write _ _ ih

/-- Two slot bytes share an address only where slot and offset agree. -/
theorem slotAddr_inj {c : Config} {i j k l : Nat} (hk : k < 2 + c.maxLen) (hl : l < 2 + c.maxLen)
    (h : slotAddr c i k = slotAddr c j l) : i = j ∧ k = l := by
  unfold slotAddr at h
  have hi : i = j := by
    rcases Nat.lt_trichotomy i j with hij | hij | hij
    · have := Nat.mul_le_mul_right (2 + c.maxLen) (show i + 1 ≤ j from hij)
      rw [Nat.add_mul] at this; omega
    · exact hij
    · have := Nat.mul_le_mul_right (2 + c.maxLen) (show j + 1 ≤ i from hij)
      rw [Nat.add_mul] at this; omega
  subst hi
  exact ⟨rfl, by omega⟩

/-- R102: the length bytes of the slots below n read 0 afterwards. -/
theorem read_zeroLengths_length (c : Config) (n : Nat) (m : Memory) {i : Nat} (hi : i < n) :
    Memory.read (zeroLengths c n m) (slotAddr c i 1) = some 0 := by
  induction n with
  | zero => omega
  | succ n ih =>
    by_cases h : i = n
    · subst h; exact Memory.read_write_same _ _ _
    · have hne : slotAddr c i 1 ≠ slotAddr c n 1 := by
        intro heq
        exact h (slotAddr_inj (by omega) (by omega) heq).1
      exact (Memory.read_write_other _ _ hne).trans (ih (by omega))

/-- R102: no other byte changes. -/
theorem read_zeroLengths_other (c : Config) (n : Nat) (m : Memory) {a : Nat}
    (h : ∀ i < n, a ≠ slotAddr c i 1) :
    Memory.read (zeroLengths c n m) a = Memory.read m a := by
  induction n with
  | zero => rfl
  | succ n ih =>
    exact (Memory.read_write_other _ _ (h n (Nat.lt_succ_self n))).trans
      (ih fun i hi => h i (Nat.lt_succ_of_lt hi))

end Sys2Proof.Machine
end

