-- ==== Sys2Proof/Laws/State.lean ====
section
/-! SUPPORT. The fields of the state after each named update: one lemma per field and update. -/

namespace Sys2Proof.Machine

variable (s : State)

@[simp] theorem fresh_cfg : (fresh s).cfg = s.cfg := rfl
@[simp] theorem fresh_txq : (fresh s).txq = s.txq := rfl
@[simp] theorem fresh_rxq : (fresh s).rxq = s.rxq := rfl
@[simp] theorem fresh_mode : (fresh s).mode = s.mode := rfl
@[simp] theorem fresh_reqn : (fresh s).reqn = s.reqn := rfl
@[simp] theorem fresh_rdyMask : (fresh s).rdyMask = s.rdyMask := rfl
@[simp] theorem fresh_attached : (fresh s).attached = s.attached := rfl
@[simp] theorem fresh_rdyPend : (fresh s).rdyPend = s.rdyPend := rfl
@[simp] theorem fresh_rdyn : (fresh s).rdyn = s.rdyn := rfl
@[simp] theorem fresh_svcSt : (fresh s).svcSt = s.svcSt := rfl
@[simp] theorem fresh_txb : (fresh s).txb = s.txb := rfl
@[simp] theorem fresh_rxb : (fresh s).rxb = s.rxb := rfl
@[simp] theorem fresh_ld : (fresh s).ld = s.ld := rfl
@[simp] theorem fresh_mb : (fresh s).mb = s.mb := rfl
@[simp] theorem fresh_k : (fresh s).k = s.k := rfl
@[simp] theorem fresh_fatal : (fresh s).fatal = s.fatal := rfl
@[simp] theorem fresh_fatalCause : (fresh s).fatalCause = s.fatalCause := rfl
@[simp] theorem fresh_initDone : (fresh s).initDone = s.initDone := rfl
@[simp] theorem fresh_debugEn : (fresh s).debugEn = s.debugEn := rfl
@[simp] theorem fresh_hcmd : (fresh s).hcmd = s.hcmd := rfl
@[simp] theorem fresh_cmdPort : (fresh s).cmdPort = s.cmdPort := rfl
@[simp] theorem fresh_devAnswers : (fresh s).devAnswers = s.devAnswers := rfl
@[simp] theorem fresh_pincfg : (fresh s).pincfg = s.pincfg := rfl
@[simp] theorem fresh_turns : (fresh s).turns = s.turns := rfl
@[simp] theorem fresh_draws : (fresh s).draws = s.draws + (2 + s.cfg.maxLen) := rfl
@[simp] theorem fresh_responses : (fresh s).responses = s.responses := rfl
@[simp] theorem fresh_wire : (fresh s).wire = s.wire := rfl
@[simp] theorem fresh_diag : (fresh s).diag = s.diag := rfl
@[simp] theorem fresh_pincfgOut : (fresh s).pincfgOut = s.pincfgOut := rfl
@[simp] theorem fresh_primOk : (fresh s).primOk = s.primOk := rfl
@[simp] theorem fresh_primOut : (fresh s).primOut = s.primOut := rfl

@[simp] theorem qFlush_cfg : (qFlush s).cfg = s.cfg := rfl
@[simp] theorem qFlush_txq : (qFlush s).txq = qInit s.cfg s.txq := rfl
@[simp] theorem qFlush_rxq : (qFlush s).rxq = qInit s.cfg s.rxq := rfl
@[simp] theorem qFlush_mode : (qFlush s).mode = s.mode := rfl
@[simp] theorem qFlush_reqn : (qFlush s).reqn = s.reqn := rfl
@[simp] theorem qFlush_rdyMask : (qFlush s).rdyMask = s.rdyMask := rfl
@[simp] theorem qFlush_attached : (qFlush s).attached = s.attached := rfl
@[simp] theorem qFlush_rdyPend : (qFlush s).rdyPend = s.rdyPend := rfl
@[simp] theorem qFlush_rdyn : (qFlush s).rdyn = s.rdyn := rfl
@[simp] theorem qFlush_svcSt : (qFlush s).svcSt = s.svcSt := rfl
@[simp] theorem qFlush_txb : (qFlush s).txb = s.txb := rfl
@[simp] theorem qFlush_rxb : (qFlush s).rxb = s.rxb := rfl
@[simp] theorem qFlush_ld : (qFlush s).ld = s.ld := rfl
@[simp] theorem qFlush_mb : (qFlush s).mb = s.mb := rfl
@[simp] theorem qFlush_k : (qFlush s).k = s.k := rfl
@[simp] theorem qFlush_fatal : (qFlush s).fatal = s.fatal := rfl
@[simp] theorem qFlush_fatalCause : (qFlush s).fatalCause = s.fatalCause := rfl
@[simp] theorem qFlush_initDone : (qFlush s).initDone = s.initDone := rfl
@[simp] theorem qFlush_debugEn : (qFlush s).debugEn = s.debugEn := rfl
@[simp] theorem qFlush_hcmd : (qFlush s).hcmd = s.hcmd := rfl
@[simp] theorem qFlush_cmdPort : (qFlush s).cmdPort = s.cmdPort := rfl
@[simp] theorem qFlush_devAnswers : (qFlush s).devAnswers = s.devAnswers := rfl
@[simp] theorem qFlush_pincfg : (qFlush s).pincfg = s.pincfg := rfl
@[simp] theorem qFlush_turns : (qFlush s).turns = s.turns := rfl
@[simp] theorem qFlush_draws : (qFlush s).draws = s.draws := rfl
@[simp] theorem qFlush_responses : (qFlush s).responses = s.responses := rfl
@[simp] theorem qFlush_wire : (qFlush s).wire = s.wire := rfl
@[simp] theorem qFlush_diag : (qFlush s).diag = s.diag := rfl
@[simp] theorem qFlush_pincfgOut : (qFlush s).pincfgOut = s.pincfgOut := rfl
@[simp] theorem qFlush_primOk : (qFlush s).primOk = s.primOk := rfl
@[simp] theorem qFlush_primOut : (qFlush s).primOut = s.primOut := rfl

@[simp] theorem exchange_cfg (t : Byte) : ((exchange t s).2).cfg = s.cfg := rfl
@[simp] theorem exchange_txq (t : Byte) : ((exchange t s).2).txq = s.txq := rfl
@[simp] theorem exchange_rxq (t : Byte) : ((exchange t s).2).rxq = s.rxq := rfl
@[simp] theorem exchange_mode (t : Byte) : ((exchange t s).2).mode = s.mode := rfl
@[simp] theorem exchange_reqn (t : Byte) : ((exchange t s).2).reqn = s.reqn := rfl
@[simp] theorem exchange_rdyMask (t : Byte) : ((exchange t s).2).rdyMask = s.rdyMask := rfl
@[simp] theorem exchange_attached (t : Byte) : ((exchange t s).2).attached = s.attached := rfl
@[simp] theorem exchange_rdyPend (t : Byte) : ((exchange t s).2).rdyPend = s.rdyPend := rfl
@[simp] theorem exchange_rdyn (t : Byte) : ((exchange t s).2).rdyn = s.rdyn := rfl
@[simp] theorem exchange_svcSt (t : Byte) : ((exchange t s).2).svcSt = s.svcSt := rfl
@[simp] theorem exchange_txb (t : Byte) : ((exchange t s).2).txb = s.txb := rfl
@[simp] theorem exchange_rxb (t : Byte) : ((exchange t s).2).rxb = s.rxb := rfl
@[simp] theorem exchange_ld (t : Byte) : ((exchange t s).2).ld = s.ld := rfl
@[simp] theorem exchange_mb (t : Byte) : ((exchange t s).2).mb = s.mb := rfl
@[simp] theorem exchange_k (t : Byte) : ((exchange t s).2).k = s.k := rfl
@[simp] theorem exchange_fatal (t : Byte) : ((exchange t s).2).fatal = s.fatal := rfl
@[simp] theorem exchange_fatalCause (t : Byte) : ((exchange t s).2).fatalCause = s.fatalCause := rfl
@[simp] theorem exchange_initDone (t : Byte) : ((exchange t s).2).initDone = s.initDone := rfl
@[simp] theorem exchange_debugEn (t : Byte) : ((exchange t s).2).debugEn = s.debugEn := rfl
@[simp] theorem exchange_hcmd (t : Byte) : ((exchange t s).2).hcmd = s.hcmd := rfl
@[simp] theorem exchange_cmdPort (t : Byte) : ((exchange t s).2).cmdPort = s.cmdPort := rfl
@[simp] theorem exchange_devAnswers (t : Byte) : ((exchange t s).2).devAnswers = s.devAnswers.tail := rfl
@[simp] theorem exchange_pincfg (t : Byte) : ((exchange t s).2).pincfg = s.pincfg := rfl
@[simp] theorem exchange_turns (t : Byte) : ((exchange t s).2).turns = s.turns := rfl
@[simp] theorem exchange_draws (t : Byte) : ((exchange t s).2).draws = s.draws + 1 := rfl
@[simp] theorem exchange_responses (t : Byte) : ((exchange t s).2).responses = s.responses := rfl
@[simp] theorem exchange_wire (t : Byte) : ((exchange t s).2).wire = s.wire ++ [⟨t, (exchange t s).1⟩] := rfl
@[simp] theorem exchange_diag (t : Byte) : ((exchange t s).2).diag = s.diag := rfl
@[simp] theorem exchange_pincfgOut (t : Byte) : ((exchange t s).2).pincfgOut = s.pincfgOut := rfl
@[simp] theorem exchange_primOk (t : Byte) : ((exchange t s).2).primOk = s.primOk := rfl
@[simp] theorem exchange_primOut (t : Byte) : ((exchange t s).2).primOut = s.primOut := rfl

@[simp] theorem respond_cfg (code : Code) (result : Bool) (data : List Byte) : (respond code result data s).cfg = s.cfg := rfl
@[simp] theorem respond_txq (code : Code) (result : Bool) (data : List Byte) : (respond code result data s).txq = s.txq := rfl
@[simp] theorem respond_rxq (code : Code) (result : Bool) (data : List Byte) : (respond code result data s).rxq = s.rxq := rfl
@[simp] theorem respond_mode (code : Code) (result : Bool) (data : List Byte) : (respond code result data s).mode = s.mode := rfl
@[simp] theorem respond_reqn (code : Code) (result : Bool) (data : List Byte) : (respond code result data s).reqn = s.reqn := rfl
@[simp] theorem respond_rdyMask (code : Code) (result : Bool) (data : List Byte) : (respond code result data s).rdyMask = s.rdyMask := rfl
@[simp] theorem respond_attached (code : Code) (result : Bool) (data : List Byte) : (respond code result data s).attached = s.attached := rfl
@[simp] theorem respond_rdyPend (code : Code) (result : Bool) (data : List Byte) : (respond code result data s).rdyPend = s.rdyPend := rfl
@[simp] theorem respond_rdyn (code : Code) (result : Bool) (data : List Byte) : (respond code result data s).rdyn = s.rdyn := rfl
@[simp] theorem respond_svcSt (code : Code) (result : Bool) (data : List Byte) : (respond code result data s).svcSt = s.svcSt := rfl
@[simp] theorem respond_txb (code : Code) (result : Bool) (data : List Byte) : (respond code result data s).txb = s.txb := rfl
@[simp] theorem respond_rxb (code : Code) (result : Bool) (data : List Byte) : (respond code result data s).rxb = s.rxb := rfl
@[simp] theorem respond_ld (code : Code) (result : Bool) (data : List Byte) : (respond code result data s).ld = s.ld := rfl
@[simp] theorem respond_mb (code : Code) (result : Bool) (data : List Byte) : (respond code result data s).mb = s.mb := rfl
@[simp] theorem respond_k (code : Code) (result : Bool) (data : List Byte) : (respond code result data s).k = s.k := rfl
@[simp] theorem respond_fatal (code : Code) (result : Bool) (data : List Byte) : (respond code result data s).fatal = s.fatal := rfl
@[simp] theorem respond_fatalCause (code : Code) (result : Bool) (data : List Byte) : (respond code result data s).fatalCause = s.fatalCause := rfl
@[simp] theorem respond_initDone (code : Code) (result : Bool) (data : List Byte) : (respond code result data s).initDone = s.initDone := rfl
@[simp] theorem respond_debugEn (code : Code) (result : Bool) (data : List Byte) : (respond code result data s).debugEn = s.debugEn := rfl
@[simp] theorem respond_hcmd (code : Code) (result : Bool) (data : List Byte) : (respond code result data s).hcmd = none := rfl
@[simp] theorem respond_cmdPort (code : Code) (result : Bool) (data : List Byte) : (respond code result data s).cmdPort = s.cmdPort := rfl
@[simp] theorem respond_devAnswers (code : Code) (result : Bool) (data : List Byte) : (respond code result data s).devAnswers = s.devAnswers := rfl
@[simp] theorem respond_pincfg (code : Code) (result : Bool) (data : List Byte) : (respond code result data s).pincfg = s.pincfg := rfl
@[simp] theorem respond_turns (code : Code) (result : Bool) (data : List Byte) : (respond code result data s).turns = s.turns := rfl
@[simp] theorem respond_draws (code : Code) (result : Bool) (data : List Byte) : (respond code result data s).draws = s.draws := rfl
@[simp] theorem respond_responses (code : Code) (result : Bool) (data : List Byte) : (respond code result data s).responses = s.responses ++ [⟨respWord code result, data⟩] := rfl
@[simp] theorem respond_wire (code : Code) (result : Bool) (data : List Byte) : (respond code result data s).wire = s.wire := rfl
@[simp] theorem respond_diag (code : Code) (result : Bool) (data : List Byte) : (respond code result data s).diag = s.diag := rfl
@[simp] theorem respond_pincfgOut (code : Code) (result : Bool) (data : List Byte) : (respond code result data s).pincfgOut = s.pincfgOut := rfl
@[simp] theorem respond_primOk (code : Code) (result : Bool) (data : List Byte) : (respond code result data s).primOk = s.primOk := rfl
@[simp] theorem respond_primOut (code : Code) (result : Bool) (data : List Byte) : (respond code result data s).primOut = s.primOut := rfl

@[simp] theorem emitDiag_cfg (dir : DiagDir) (p : Packet) : (emitDiag dir p s).cfg = s.cfg := rfl
@[simp] theorem emitDiag_txq (dir : DiagDir) (p : Packet) : (emitDiag dir p s).txq = s.txq := rfl
@[simp] theorem emitDiag_rxq (dir : DiagDir) (p : Packet) : (emitDiag dir p s).rxq = s.rxq := rfl
@[simp] theorem emitDiag_mode (dir : DiagDir) (p : Packet) : (emitDiag dir p s).mode = s.mode := rfl
@[simp] theorem emitDiag_reqn (dir : DiagDir) (p : Packet) : (emitDiag dir p s).reqn = s.reqn := rfl
@[simp] theorem emitDiag_rdyMask (dir : DiagDir) (p : Packet) : (emitDiag dir p s).rdyMask = s.rdyMask := rfl
@[simp] theorem emitDiag_attached (dir : DiagDir) (p : Packet) : (emitDiag dir p s).attached = s.attached := rfl
@[simp] theorem emitDiag_rdyPend (dir : DiagDir) (p : Packet) : (emitDiag dir p s).rdyPend = s.rdyPend := rfl
@[simp] theorem emitDiag_rdyn (dir : DiagDir) (p : Packet) : (emitDiag dir p s).rdyn = s.rdyn := rfl
@[simp] theorem emitDiag_svcSt (dir : DiagDir) (p : Packet) : (emitDiag dir p s).svcSt = s.svcSt := rfl
@[simp] theorem emitDiag_txb (dir : DiagDir) (p : Packet) : (emitDiag dir p s).txb = s.txb := rfl
@[simp] theorem emitDiag_rxb (dir : DiagDir) (p : Packet) : (emitDiag dir p s).rxb = s.rxb := rfl
@[simp] theorem emitDiag_ld (dir : DiagDir) (p : Packet) : (emitDiag dir p s).ld = s.ld := rfl
@[simp] theorem emitDiag_mb (dir : DiagDir) (p : Packet) : (emitDiag dir p s).mb = s.mb := rfl
@[simp] theorem emitDiag_k (dir : DiagDir) (p : Packet) : (emitDiag dir p s).k = s.k := rfl
@[simp] theorem emitDiag_fatal (dir : DiagDir) (p : Packet) : (emitDiag dir p s).fatal = s.fatal := rfl
@[simp] theorem emitDiag_fatalCause (dir : DiagDir) (p : Packet) : (emitDiag dir p s).fatalCause = s.fatalCause := rfl
@[simp] theorem emitDiag_initDone (dir : DiagDir) (p : Packet) : (emitDiag dir p s).initDone = s.initDone := rfl
@[simp] theorem emitDiag_debugEn (dir : DiagDir) (p : Packet) : (emitDiag dir p s).debugEn = s.debugEn := rfl
@[simp] theorem emitDiag_hcmd (dir : DiagDir) (p : Packet) : (emitDiag dir p s).hcmd = s.hcmd := rfl
@[simp] theorem emitDiag_cmdPort (dir : DiagDir) (p : Packet) : (emitDiag dir p s).cmdPort = s.cmdPort := rfl
@[simp] theorem emitDiag_devAnswers (dir : DiagDir) (p : Packet) : (emitDiag dir p s).devAnswers = s.devAnswers := rfl
@[simp] theorem emitDiag_pincfg (dir : DiagDir) (p : Packet) : (emitDiag dir p s).pincfg = s.pincfg := rfl
@[simp] theorem emitDiag_turns (dir : DiagDir) (p : Packet) : (emitDiag dir p s).turns = s.turns := rfl
@[simp] theorem emitDiag_draws (dir : DiagDir) (p : Packet) : (emitDiag dir p s).draws = s.draws + (2 + s.cfg.maxLen) := rfl
@[simp] theorem emitDiag_responses (dir : DiagDir) (p : Packet) : (emitDiag dir p s).responses = s.responses := rfl
@[simp] theorem emitDiag_wire (dir : DiagDir) (p : Packet) : (emitDiag dir p s).wire = s.wire := rfl
@[simp] theorem emitDiag_diag (dir : DiagDir) (p : Packet) : (emitDiag dir p s).diag = if s.debugEn then s.diag ++ [⟨dir, p.length, Packet.body p s.draws⟩] else s.diag := rfl
@[simp] theorem emitDiag_pincfgOut (dir : DiagDir) (p : Packet) : (emitDiag dir p s).pincfgOut = s.pincfgOut := rfl
@[simp] theorem emitDiag_primOk (dir : DiagDir) (p : Packet) : (emitDiag dir p s).primOk = s.primOk := rfl
@[simp] theorem emitDiag_primOut (dir : DiagDir) (p : Packet) : (emitDiag dir p s).primOut = s.primOut := rfl

@[simp] theorem raiseFatal_cfg (cause : Byte) : (raiseFatal cause s).cfg = s.cfg := rfl
@[simp] theorem raiseFatal_txq (cause : Byte) : (raiseFatal cause s).txq = s.txq := rfl
@[simp] theorem raiseFatal_rxq (cause : Byte) : (raiseFatal cause s).rxq = s.rxq := rfl
@[simp] theorem raiseFatal_mode (cause : Byte) : (raiseFatal cause s).mode = s.mode := rfl
@[simp] theorem raiseFatal_reqn (cause : Byte) : (raiseFatal cause s).reqn = s.reqn := rfl
@[simp] theorem raiseFatal_rdyMask (cause : Byte) : (raiseFatal cause s).rdyMask = s.rdyMask := rfl
@[simp] theorem raiseFatal_attached (cause : Byte) : (raiseFatal cause s).attached = s.attached := rfl
@[simp] theorem raiseFatal_rdyPend (cause : Byte) : (raiseFatal cause s).rdyPend = s.rdyPend := rfl
@[simp] theorem raiseFatal_rdyn (cause : Byte) : (raiseFatal cause s).rdyn = s.rdyn := rfl
@[simp] theorem raiseFatal_svcSt (cause : Byte) : (raiseFatal cause s).svcSt = .sFatal := rfl
@[simp] theorem raiseFatal_txb (cause : Byte) : (raiseFatal cause s).txb = s.txb := rfl
@[simp] theorem raiseFatal_rxb (cause : Byte) : (raiseFatal cause s).rxb = s.rxb := rfl
@[simp] theorem raiseFatal_ld (cause : Byte) : (raiseFatal cause s).ld = s.ld := rfl
@[simp] theorem raiseFatal_mb (cause : Byte) : (raiseFatal cause s).mb = s.mb := rfl
@[simp] theorem raiseFatal_k (cause : Byte) : (raiseFatal cause s).k = s.k := rfl
@[simp] theorem raiseFatal_fatal (cause : Byte) : (raiseFatal cause s).fatal = true := rfl
@[simp] theorem raiseFatal_fatalCause (cause : Byte) : (raiseFatal cause s).fatalCause = cause := rfl
@[simp] theorem raiseFatal_initDone (cause : Byte) : (raiseFatal cause s).initDone = s.initDone := rfl
@[simp] theorem raiseFatal_debugEn (cause : Byte) : (raiseFatal cause s).debugEn = s.debugEn := rfl
@[simp] theorem raiseFatal_hcmd (cause : Byte) : (raiseFatal cause s).hcmd = s.hcmd := rfl
@[simp] theorem raiseFatal_cmdPort (cause : Byte) : (raiseFatal cause s).cmdPort = s.cmdPort := rfl
@[simp] theorem raiseFatal_devAnswers (cause : Byte) : (raiseFatal cause s).devAnswers = s.devAnswers := rfl
@[simp] theorem raiseFatal_pincfg (cause : Byte) : (raiseFatal cause s).pincfg = s.pincfg := rfl
@[simp] theorem raiseFatal_turns (cause : Byte) : (raiseFatal cause s).turns = s.turns := rfl
@[simp] theorem raiseFatal_draws (cause : Byte) : (raiseFatal cause s).draws = s.draws := rfl
@[simp] theorem raiseFatal_responses (cause : Byte) : (raiseFatal cause s).responses = s.responses := rfl
@[simp] theorem raiseFatal_wire (cause : Byte) : (raiseFatal cause s).wire = s.wire := rfl
@[simp] theorem raiseFatal_diag (cause : Byte) : (raiseFatal cause s).diag = s.diag := rfl
@[simp] theorem raiseFatal_pincfgOut (cause : Byte) : (raiseFatal cause s).pincfgOut = s.pincfgOut := rfl
@[simp] theorem raiseFatal_primOk (cause : Byte) : (raiseFatal cause s).primOk = s.primOk := rfl
@[simp] theorem raiseFatal_primOut (cause : Byte) : (raiseFatal cause s).primOut = s.primOut := rfl

@[simp] theorem serviceStart_cfg : (serviceStart s).cfg = s.cfg := rfl
@[simp] theorem serviceStart_txq : (serviceStart s).txq = s.txq := rfl
@[simp] theorem serviceStart_rxq : (serviceStart s).rxq = s.rxq := rfl
@[simp] theorem serviceStart_mode : (serviceStart s).mode = s.mode := rfl
@[simp] theorem serviceStart_reqn : (serviceStart s).reqn = s.reqn := rfl
@[simp] theorem serviceStart_rdyMask : (serviceStart s).rdyMask = s.rdyMask := rfl
@[simp] theorem serviceStart_attached : (serviceStart s).attached = s.attached := rfl
@[simp] theorem serviceStart_rdyPend : (serviceStart s).rdyPend = s.rdyPend := rfl
@[simp] theorem serviceStart_rdyn : (serviceStart s).rdyn = s.rdyn := rfl
@[simp] theorem serviceStart_svcSt : (serviceStart s).svcSt = .sEntry := rfl
@[simp] theorem serviceStart_txb : (serviceStart s).txb = s.txb := rfl
@[simp] theorem serviceStart_rxb : (serviceStart s).rxb = s.rxb := rfl
@[simp] theorem serviceStart_ld : (serviceStart s).ld = s.ld := rfl
@[simp] theorem serviceStart_mb : (serviceStart s).mb = s.mb := rfl
@[simp] theorem serviceStart_k : (serviceStart s).k = s.k := rfl
@[simp] theorem serviceStart_fatal : (serviceStart s).fatal = s.fatal := rfl
@[simp] theorem serviceStart_fatalCause : (serviceStart s).fatalCause = s.fatalCause := rfl
@[simp] theorem serviceStart_initDone : (serviceStart s).initDone = s.initDone := rfl
@[simp] theorem serviceStart_debugEn : (serviceStart s).debugEn = s.debugEn := rfl
@[simp] theorem serviceStart_hcmd : (serviceStart s).hcmd = s.hcmd := rfl
@[simp] theorem serviceStart_cmdPort : (serviceStart s).cmdPort = s.cmdPort := rfl
@[simp] theorem serviceStart_devAnswers : (serviceStart s).devAnswers = s.devAnswers := rfl
@[simp] theorem serviceStart_pincfg : (serviceStart s).pincfg = s.pincfg := rfl
@[simp] theorem serviceStart_turns : (serviceStart s).turns = s.turns := rfl
@[simp] theorem serviceStart_draws : (serviceStart s).draws = s.draws := rfl
@[simp] theorem serviceStart_responses : (serviceStart s).responses = s.responses := rfl
@[simp] theorem serviceStart_wire : (serviceStart s).wire = s.wire := rfl
@[simp] theorem serviceStart_diag : (serviceStart s).diag = s.diag := rfl
@[simp] theorem serviceStart_pincfgOut : (serviceStart s).pincfgOut = s.pincfgOut := rfl
@[simp] theorem serviceStart_primOk : (serviceStart s).primOk = s.primOk := rfl
@[simp] theorem serviceStart_primOut : (serviceStart s).primOut = s.primOut := rfl

@[simp] theorem serviceEntry_cfg : (serviceEntry s).cfg = s.cfg := rfl
@[simp] theorem serviceEntry_txq : (serviceEntry s).txq = s.txq := rfl
@[simp] theorem serviceEntry_rxq : (serviceEntry s).rxq = s.rxq := rfl
@[simp] theorem serviceEntry_mode : (serviceEntry s).mode = s.mode := rfl
@[simp] theorem serviceEntry_reqn : (serviceEntry s).reqn = s.reqn := rfl
@[simp] theorem serviceEntry_rdyMask : (serviceEntry s).rdyMask = s.rdyMask := rfl
@[simp] theorem serviceEntry_attached : (serviceEntry s).attached = false := rfl
@[simp] theorem serviceEntry_rdyPend : (serviceEntry s).rdyPend = false := rfl
@[simp] theorem serviceEntry_rdyn : (serviceEntry s).rdyn = s.rdyn := rfl
@[simp] theorem serviceEntry_svcSt : (serviceEntry s).svcSt = .sStart := rfl
@[simp] theorem serviceEntry_txb : (serviceEntry s).txb = s.txb := rfl
@[simp] theorem serviceEntry_rxb : (serviceEntry s).rxb = s.rxb := rfl
@[simp] theorem serviceEntry_ld : (serviceEntry s).ld = s.ld := rfl
@[simp] theorem serviceEntry_mb : (serviceEntry s).mb = s.mb := rfl
@[simp] theorem serviceEntry_k : (serviceEntry s).k = s.k := rfl
@[simp] theorem serviceEntry_fatal : (serviceEntry s).fatal = s.fatal := rfl
@[simp] theorem serviceEntry_fatalCause : (serviceEntry s).fatalCause = s.fatalCause := rfl
@[simp] theorem serviceEntry_initDone : (serviceEntry s).initDone = s.initDone := rfl
@[simp] theorem serviceEntry_debugEn : (serviceEntry s).debugEn = s.debugEn := rfl
@[simp] theorem serviceEntry_hcmd : (serviceEntry s).hcmd = s.hcmd := rfl
@[simp] theorem serviceEntry_cmdPort : (serviceEntry s).cmdPort = s.cmdPort := rfl
@[simp] theorem serviceEntry_devAnswers : (serviceEntry s).devAnswers = s.devAnswers := rfl
@[simp] theorem serviceEntry_pincfg : (serviceEntry s).pincfg = s.pincfg := rfl
@[simp] theorem serviceEntry_turns : (serviceEntry s).turns = s.turns := rfl
@[simp] theorem serviceEntry_draws : (serviceEntry s).draws = s.draws := rfl
@[simp] theorem serviceEntry_responses : (serviceEntry s).responses = s.responses := rfl
@[simp] theorem serviceEntry_wire : (serviceEntry s).wire = s.wire := rfl
@[simp] theorem serviceEntry_diag : (serviceEntry s).diag = s.diag := rfl
@[simp] theorem serviceEntry_pincfgOut : (serviceEntry s).pincfgOut = s.pincfgOut := rfl
@[simp] theorem serviceEntry_primOk : (serviceEntry s).primOk = s.primOk := rfl
@[simp] theorem serviceEntry_primOut : (serviceEntry s).primOut = s.primOut := rfl

@[simp] theorem serviceReturn_cfg : (serviceReturn s).cfg = s.cfg := rfl
@[simp] theorem serviceReturn_txq : (serviceReturn s).txq = s.txq := rfl
@[simp] theorem serviceReturn_rxq : (serviceReturn s).rxq = s.rxq := rfl
@[simp] theorem serviceReturn_mode : (serviceReturn s).mode = s.mode := rfl
@[simp] theorem serviceReturn_reqn : (serviceReturn s).reqn = s.reqn := rfl
@[simp] theorem serviceReturn_rdyMask : (serviceReturn s).rdyMask = s.rdyMask := rfl
@[simp] theorem serviceReturn_attached : (serviceReturn s).attached = if s.mode = .edge then true else s.attached := rfl
@[simp] theorem serviceReturn_rdyPend : (serviceReturn s).rdyPend = s.rdyPend := rfl
@[simp] theorem serviceReturn_rdyn : (serviceReturn s).rdyn = s.rdyn := rfl
@[simp] theorem serviceReturn_svcSt : (serviceReturn s).svcSt = .sIdle := rfl
@[simp] theorem serviceReturn_txb : (serviceReturn s).txb = s.txb := rfl
@[simp] theorem serviceReturn_rxb : (serviceReturn s).rxb = s.rxb := rfl
@[simp] theorem serviceReturn_ld : (serviceReturn s).ld = s.ld := rfl
@[simp] theorem serviceReturn_mb : (serviceReturn s).mb = s.mb := rfl
@[simp] theorem serviceReturn_k : (serviceReturn s).k = s.k := rfl
@[simp] theorem serviceReturn_fatal : (serviceReturn s).fatal = s.fatal := rfl
@[simp] theorem serviceReturn_fatalCause : (serviceReturn s).fatalCause = s.fatalCause := rfl
@[simp] theorem serviceReturn_initDone : (serviceReturn s).initDone = s.initDone := rfl
@[simp] theorem serviceReturn_debugEn : (serviceReturn s).debugEn = s.debugEn := rfl
@[simp] theorem serviceReturn_hcmd : (serviceReturn s).hcmd = s.hcmd := rfl
@[simp] theorem serviceReturn_cmdPort : (serviceReturn s).cmdPort = s.cmdPort := rfl
@[simp] theorem serviceReturn_devAnswers : (serviceReturn s).devAnswers = s.devAnswers := rfl
@[simp] theorem serviceReturn_pincfg : (serviceReturn s).pincfg = s.pincfg := rfl
@[simp] theorem serviceReturn_turns : (serviceReturn s).turns = s.turns := rfl
@[simp] theorem serviceReturn_draws : (serviceReturn s).draws = s.draws := rfl
@[simp] theorem serviceReturn_responses : (serviceReturn s).responses = s.responses := rfl
@[simp] theorem serviceReturn_wire : (serviceReturn s).wire = s.wire := rfl
@[simp] theorem serviceReturn_diag : (serviceReturn s).diag = s.diag := rfl
@[simp] theorem serviceReturn_pincfgOut : (serviceReturn s).pincfgOut = s.pincfgOut := rfl
@[simp] theorem serviceReturn_primOk : (serviceReturn s).primOk = s.primOk := rfl
@[simp] theorem serviceReturn_primOut : (serviceReturn s).primOut = s.primOut := rfl

@[simp] theorem setTxq_cfg (q : Queue) : (State.setQueue s .tx q).cfg = s.cfg := rfl
@[simp] theorem setTxq_txq (q : Queue) : (State.setQueue s .tx q).txq = q := rfl
@[simp] theorem setTxq_rxq (q : Queue) : (State.setQueue s .tx q).rxq = s.rxq := rfl
@[simp] theorem setTxq_mode (q : Queue) : (State.setQueue s .tx q).mode = s.mode := rfl
@[simp] theorem setTxq_reqn (q : Queue) : (State.setQueue s .tx q).reqn = s.reqn := rfl
@[simp] theorem setTxq_rdyMask (q : Queue) : (State.setQueue s .tx q).rdyMask = s.rdyMask := rfl
@[simp] theorem setTxq_attached (q : Queue) : (State.setQueue s .tx q).attached = s.attached := rfl
@[simp] theorem setTxq_rdyPend (q : Queue) : (State.setQueue s .tx q).rdyPend = s.rdyPend := rfl
@[simp] theorem setTxq_rdyn (q : Queue) : (State.setQueue s .tx q).rdyn = s.rdyn := rfl
@[simp] theorem setTxq_svcSt (q : Queue) : (State.setQueue s .tx q).svcSt = s.svcSt := rfl
@[simp] theorem setTxq_txb (q : Queue) : (State.setQueue s .tx q).txb = s.txb := rfl
@[simp] theorem setTxq_rxb (q : Queue) : (State.setQueue s .tx q).rxb = s.rxb := rfl
@[simp] theorem setTxq_ld (q : Queue) : (State.setQueue s .tx q).ld = s.ld := rfl
@[simp] theorem setTxq_mb (q : Queue) : (State.setQueue s .tx q).mb = s.mb := rfl
@[simp] theorem setTxq_k (q : Queue) : (State.setQueue s .tx q).k = s.k := rfl
@[simp] theorem setTxq_fatal (q : Queue) : (State.setQueue s .tx q).fatal = s.fatal := rfl
@[simp] theorem setTxq_fatalCause (q : Queue) : (State.setQueue s .tx q).fatalCause = s.fatalCause := rfl
@[simp] theorem setTxq_initDone (q : Queue) : (State.setQueue s .tx q).initDone = s.initDone := rfl
@[simp] theorem setTxq_debugEn (q : Queue) : (State.setQueue s .tx q).debugEn = s.debugEn := rfl
@[simp] theorem setTxq_hcmd (q : Queue) : (State.setQueue s .tx q).hcmd = s.hcmd := rfl
@[simp] theorem setTxq_cmdPort (q : Queue) : (State.setQueue s .tx q).cmdPort = s.cmdPort := rfl
@[simp] theorem setTxq_devAnswers (q : Queue) : (State.setQueue s .tx q).devAnswers = s.devAnswers := rfl
@[simp] theorem setTxq_pincfg (q : Queue) : (State.setQueue s .tx q).pincfg = s.pincfg := rfl
@[simp] theorem setTxq_turns (q : Queue) : (State.setQueue s .tx q).turns = s.turns := rfl
@[simp] theorem setTxq_draws (q : Queue) : (State.setQueue s .tx q).draws = s.draws := rfl
@[simp] theorem setTxq_responses (q : Queue) : (State.setQueue s .tx q).responses = s.responses := rfl
@[simp] theorem setTxq_wire (q : Queue) : (State.setQueue s .tx q).wire = s.wire := rfl
@[simp] theorem setTxq_diag (q : Queue) : (State.setQueue s .tx q).diag = s.diag := rfl
@[simp] theorem setTxq_pincfgOut (q : Queue) : (State.setQueue s .tx q).pincfgOut = s.pincfgOut := rfl
@[simp] theorem setTxq_primOk (q : Queue) : (State.setQueue s .tx q).primOk = s.primOk := rfl
@[simp] theorem setTxq_primOut (q : Queue) : (State.setQueue s .tx q).primOut = s.primOut := rfl

@[simp] theorem setRxq_cfg (q : Queue) : (State.setQueue s .rx q).cfg = s.cfg := rfl
@[simp] theorem setRxq_txq (q : Queue) : (State.setQueue s .rx q).txq = s.txq := rfl
@[simp] theorem setRxq_rxq (q : Queue) : (State.setQueue s .rx q).rxq = q := rfl
@[simp] theorem setRxq_mode (q : Queue) : (State.setQueue s .rx q).mode = s.mode := rfl
@[simp] theorem setRxq_reqn (q : Queue) : (State.setQueue s .rx q).reqn = s.reqn := rfl
@[simp] theorem setRxq_rdyMask (q : Queue) : (State.setQueue s .rx q).rdyMask = s.rdyMask := rfl
@[simp] theorem setRxq_attached (q : Queue) : (State.setQueue s .rx q).attached = s.attached := rfl
@[simp] theorem setRxq_rdyPend (q : Queue) : (State.setQueue s .rx q).rdyPend = s.rdyPend := rfl
@[simp] theorem setRxq_rdyn (q : Queue) : (State.setQueue s .rx q).rdyn = s.rdyn := rfl
@[simp] theorem setRxq_svcSt (q : Queue) : (State.setQueue s .rx q).svcSt = s.svcSt := rfl
@[simp] theorem setRxq_txb (q : Queue) : (State.setQueue s .rx q).txb = s.txb := rfl
@[simp] theorem setRxq_rxb (q : Queue) : (State.setQueue s .rx q).rxb = s.rxb := rfl
@[simp] theorem setRxq_ld (q : Queue) : (State.setQueue s .rx q).ld = s.ld := rfl
@[simp] theorem setRxq_mb (q : Queue) : (State.setQueue s .rx q).mb = s.mb := rfl
@[simp] theorem setRxq_k (q : Queue) : (State.setQueue s .rx q).k = s.k := rfl
@[simp] theorem setRxq_fatal (q : Queue) : (State.setQueue s .rx q).fatal = s.fatal := rfl
@[simp] theorem setRxq_fatalCause (q : Queue) : (State.setQueue s .rx q).fatalCause = s.fatalCause := rfl
@[simp] theorem setRxq_initDone (q : Queue) : (State.setQueue s .rx q).initDone = s.initDone := rfl
@[simp] theorem setRxq_debugEn (q : Queue) : (State.setQueue s .rx q).debugEn = s.debugEn := rfl
@[simp] theorem setRxq_hcmd (q : Queue) : (State.setQueue s .rx q).hcmd = s.hcmd := rfl
@[simp] theorem setRxq_cmdPort (q : Queue) : (State.setQueue s .rx q).cmdPort = s.cmdPort := rfl
@[simp] theorem setRxq_devAnswers (q : Queue) : (State.setQueue s .rx q).devAnswers = s.devAnswers := rfl
@[simp] theorem setRxq_pincfg (q : Queue) : (State.setQueue s .rx q).pincfg = s.pincfg := rfl
@[simp] theorem setRxq_turns (q : Queue) : (State.setQueue s .rx q).turns = s.turns := rfl
@[simp] theorem setRxq_draws (q : Queue) : (State.setQueue s .rx q).draws = s.draws := rfl
@[simp] theorem setRxq_responses (q : Queue) : (State.setQueue s .rx q).responses = s.responses := rfl
@[simp] theorem setRxq_wire (q : Queue) : (State.setQueue s .rx q).wire = s.wire := rfl
@[simp] theorem setRxq_diag (q : Queue) : (State.setQueue s .rx q).diag = s.diag := rfl
@[simp] theorem setRxq_pincfgOut (q : Queue) : (State.setQueue s .rx q).pincfgOut = s.pincfgOut := rfl
@[simp] theorem setRxq_primOk (q : Queue) : (State.setQueue s .rx q).primOk = s.primOk := rfl
@[simp] theorem setRxq_primOut (q : Queue) : (State.setQueue s .rx q).primOut = s.primOut := rfl

@[simp] theorem setTxb_cfg (p : Packet) : (State.setPacket s .txb p).cfg = s.cfg := rfl
@[simp] theorem setTxb_txq (p : Packet) : (State.setPacket s .txb p).txq = s.txq := rfl
@[simp] theorem setTxb_rxq (p : Packet) : (State.setPacket s .txb p).rxq = s.rxq := rfl
@[simp] theorem setTxb_mode (p : Packet) : (State.setPacket s .txb p).mode = s.mode := rfl
@[simp] theorem setTxb_reqn (p : Packet) : (State.setPacket s .txb p).reqn = s.reqn := rfl
@[simp] theorem setTxb_rdyMask (p : Packet) : (State.setPacket s .txb p).rdyMask = s.rdyMask := rfl
@[simp] theorem setTxb_attached (p : Packet) : (State.setPacket s .txb p).attached = s.attached := rfl
@[simp] theorem setTxb_rdyPend (p : Packet) : (State.setPacket s .txb p).rdyPend = s.rdyPend := rfl
@[simp] theorem setTxb_rdyn (p : Packet) : (State.setPacket s .txb p).rdyn = s.rdyn := rfl
@[simp] theorem setTxb_svcSt (p : Packet) : (State.setPacket s .txb p).svcSt = s.svcSt := rfl
@[simp] theorem setTxb_txb (p : Packet) : (State.setPacket s .txb p).txb = p := rfl
@[simp] theorem setTxb_rxb (p : Packet) : (State.setPacket s .txb p).rxb = s.rxb := rfl
@[simp] theorem setTxb_ld (p : Packet) : (State.setPacket s .txb p).ld = s.ld := rfl
@[simp] theorem setTxb_mb (p : Packet) : (State.setPacket s .txb p).mb = s.mb := rfl
@[simp] theorem setTxb_k (p : Packet) : (State.setPacket s .txb p).k = s.k := rfl
@[simp] theorem setTxb_fatal (p : Packet) : (State.setPacket s .txb p).fatal = s.fatal := rfl
@[simp] theorem setTxb_fatalCause (p : Packet) : (State.setPacket s .txb p).fatalCause = s.fatalCause := rfl
@[simp] theorem setTxb_initDone (p : Packet) : (State.setPacket s .txb p).initDone = s.initDone := rfl
@[simp] theorem setTxb_debugEn (p : Packet) : (State.setPacket s .txb p).debugEn = s.debugEn := rfl
@[simp] theorem setTxb_hcmd (p : Packet) : (State.setPacket s .txb p).hcmd = s.hcmd := rfl
@[simp] theorem setTxb_cmdPort (p : Packet) : (State.setPacket s .txb p).cmdPort = s.cmdPort := rfl
@[simp] theorem setTxb_devAnswers (p : Packet) : (State.setPacket s .txb p).devAnswers = s.devAnswers := rfl
@[simp] theorem setTxb_pincfg (p : Packet) : (State.setPacket s .txb p).pincfg = s.pincfg := rfl
@[simp] theorem setTxb_turns (p : Packet) : (State.setPacket s .txb p).turns = s.turns := rfl
@[simp] theorem setTxb_draws (p : Packet) : (State.setPacket s .txb p).draws = s.draws := rfl
@[simp] theorem setTxb_responses (p : Packet) : (State.setPacket s .txb p).responses = s.responses := rfl
@[simp] theorem setTxb_wire (p : Packet) : (State.setPacket s .txb p).wire = s.wire := rfl
@[simp] theorem setTxb_diag (p : Packet) : (State.setPacket s .txb p).diag = s.diag := rfl
@[simp] theorem setTxb_pincfgOut (p : Packet) : (State.setPacket s .txb p).pincfgOut = s.pincfgOut := rfl
@[simp] theorem setTxb_primOk (p : Packet) : (State.setPacket s .txb p).primOk = s.primOk := rfl
@[simp] theorem setTxb_primOut (p : Packet) : (State.setPacket s .txb p).primOut = s.primOut := rfl

@[simp] theorem setRxb_cfg (p : Packet) : (State.setPacket s .rxb p).cfg = s.cfg := rfl
@[simp] theorem setRxb_txq (p : Packet) : (State.setPacket s .rxb p).txq = s.txq := rfl
@[simp] theorem setRxb_rxq (p : Packet) : (State.setPacket s .rxb p).rxq = s.rxq := rfl
@[simp] theorem setRxb_mode (p : Packet) : (State.setPacket s .rxb p).mode = s.mode := rfl
@[simp] theorem setRxb_reqn (p : Packet) : (State.setPacket s .rxb p).reqn = s.reqn := rfl
@[simp] theorem setRxb_rdyMask (p : Packet) : (State.setPacket s .rxb p).rdyMask = s.rdyMask := rfl
@[simp] theorem setRxb_attached (p : Packet) : (State.setPacket s .rxb p).attached = s.attached := rfl
@[simp] theorem setRxb_rdyPend (p : Packet) : (State.setPacket s .rxb p).rdyPend = s.rdyPend := rfl
@[simp] theorem setRxb_rdyn (p : Packet) : (State.setPacket s .rxb p).rdyn = s.rdyn := rfl
@[simp] theorem setRxb_svcSt (p : Packet) : (State.setPacket s .rxb p).svcSt = s.svcSt := rfl
@[simp] theorem setRxb_txb (p : Packet) : (State.setPacket s .rxb p).txb = s.txb := rfl
@[simp] theorem setRxb_rxb (p : Packet) : (State.setPacket s .rxb p).rxb = p := rfl
@[simp] theorem setRxb_ld (p : Packet) : (State.setPacket s .rxb p).ld = s.ld := rfl
@[simp] theorem setRxb_mb (p : Packet) : (State.setPacket s .rxb p).mb = s.mb := rfl
@[simp] theorem setRxb_k (p : Packet) : (State.setPacket s .rxb p).k = s.k := rfl
@[simp] theorem setRxb_fatal (p : Packet) : (State.setPacket s .rxb p).fatal = s.fatal := rfl
@[simp] theorem setRxb_fatalCause (p : Packet) : (State.setPacket s .rxb p).fatalCause = s.fatalCause := rfl
@[simp] theorem setRxb_initDone (p : Packet) : (State.setPacket s .rxb p).initDone = s.initDone := rfl
@[simp] theorem setRxb_debugEn (p : Packet) : (State.setPacket s .rxb p).debugEn = s.debugEn := rfl
@[simp] theorem setRxb_hcmd (p : Packet) : (State.setPacket s .rxb p).hcmd = s.hcmd := rfl
@[simp] theorem setRxb_cmdPort (p : Packet) : (State.setPacket s .rxb p).cmdPort = s.cmdPort := rfl
@[simp] theorem setRxb_devAnswers (p : Packet) : (State.setPacket s .rxb p).devAnswers = s.devAnswers := rfl
@[simp] theorem setRxb_pincfg (p : Packet) : (State.setPacket s .rxb p).pincfg = s.pincfg := rfl
@[simp] theorem setRxb_turns (p : Packet) : (State.setPacket s .rxb p).turns = s.turns := rfl
@[simp] theorem setRxb_draws (p : Packet) : (State.setPacket s .rxb p).draws = s.draws := rfl
@[simp] theorem setRxb_responses (p : Packet) : (State.setPacket s .rxb p).responses = s.responses := rfl
@[simp] theorem setRxb_wire (p : Packet) : (State.setPacket s .rxb p).wire = s.wire := rfl
@[simp] theorem setRxb_diag (p : Packet) : (State.setPacket s .rxb p).diag = s.diag := rfl
@[simp] theorem setRxb_pincfgOut (p : Packet) : (State.setPacket s .rxb p).pincfgOut = s.pincfgOut := rfl
@[simp] theorem setRxb_primOk (p : Packet) : (State.setPacket s .rxb p).primOk = s.primOk := rfl
@[simp] theorem setRxb_primOut (p : Packet) : (State.setPacket s .rxb p).primOut = s.primOut := rfl

@[simp] theorem setOut_cfg (p : Packet) : (State.setPacket s .out p).cfg = s.cfg := rfl
@[simp] theorem setOut_txq (p : Packet) : (State.setPacket s .out p).txq = s.txq := rfl
@[simp] theorem setOut_rxq (p : Packet) : (State.setPacket s .out p).rxq = s.rxq := rfl
@[simp] theorem setOut_mode (p : Packet) : (State.setPacket s .out p).mode = s.mode := rfl
@[simp] theorem setOut_reqn (p : Packet) : (State.setPacket s .out p).reqn = s.reqn := rfl
@[simp] theorem setOut_rdyMask (p : Packet) : (State.setPacket s .out p).rdyMask = s.rdyMask := rfl
@[simp] theorem setOut_attached (p : Packet) : (State.setPacket s .out p).attached = s.attached := rfl
@[simp] theorem setOut_rdyPend (p : Packet) : (State.setPacket s .out p).rdyPend = s.rdyPend := rfl
@[simp] theorem setOut_rdyn (p : Packet) : (State.setPacket s .out p).rdyn = s.rdyn := rfl
@[simp] theorem setOut_svcSt (p : Packet) : (State.setPacket s .out p).svcSt = s.svcSt := rfl
@[simp] theorem setOut_txb (p : Packet) : (State.setPacket s .out p).txb = s.txb := rfl
@[simp] theorem setOut_rxb (p : Packet) : (State.setPacket s .out p).rxb = s.rxb := rfl
@[simp] theorem setOut_ld (p : Packet) : (State.setPacket s .out p).ld = s.ld := rfl
@[simp] theorem setOut_mb (p : Packet) : (State.setPacket s .out p).mb = s.mb := rfl
@[simp] theorem setOut_k (p : Packet) : (State.setPacket s .out p).k = s.k := rfl
@[simp] theorem setOut_fatal (p : Packet) : (State.setPacket s .out p).fatal = s.fatal := rfl
@[simp] theorem setOut_fatalCause (p : Packet) : (State.setPacket s .out p).fatalCause = s.fatalCause := rfl
@[simp] theorem setOut_initDone (p : Packet) : (State.setPacket s .out p).initDone = s.initDone := rfl
@[simp] theorem setOut_debugEn (p : Packet) : (State.setPacket s .out p).debugEn = s.debugEn := rfl
@[simp] theorem setOut_hcmd (p : Packet) : (State.setPacket s .out p).hcmd = s.hcmd := rfl
@[simp] theorem setOut_cmdPort (p : Packet) : (State.setPacket s .out p).cmdPort = s.cmdPort := rfl
@[simp] theorem setOut_devAnswers (p : Packet) : (State.setPacket s .out p).devAnswers = s.devAnswers := rfl
@[simp] theorem setOut_pincfg (p : Packet) : (State.setPacket s .out p).pincfg = s.pincfg := rfl
@[simp] theorem setOut_turns (p : Packet) : (State.setPacket s .out p).turns = s.turns := rfl
@[simp] theorem setOut_draws (p : Packet) : (State.setPacket s .out p).draws = s.draws := rfl
@[simp] theorem setOut_responses (p : Packet) : (State.setPacket s .out p).responses = s.responses := rfl
@[simp] theorem setOut_wire (p : Packet) : (State.setPacket s .out p).wire = s.wire := rfl
@[simp] theorem setOut_diag (p : Packet) : (State.setPacket s .out p).diag = s.diag := rfl
@[simp] theorem setOut_pincfgOut (p : Packet) : (State.setPacket s .out p).pincfgOut = s.pincfgOut := rfl
@[simp] theorem setOut_primOk (p : Packet) : (State.setPacket s .out p).primOk = s.primOk := rfl
@[simp] theorem setOut_primOut (p : Packet) : (State.setPacket s .out p).primOut = p := rfl

@[simp] theorem maskCheck_cfg : (maskCheck s).cfg = s.cfg := by
  unfold maskCheck; split <;> rfl
@[simp] theorem maskCheck_txq : (maskCheck s).txq = s.txq := by
  unfold maskCheck; split <;> rfl
@[simp] theorem maskCheck_rxq : (maskCheck s).rxq = s.rxq := by
  unfold maskCheck; split <;> rfl
@[simp] theorem maskCheck_mode : (maskCheck s).mode = s.mode := by
  unfold maskCheck; split <;> rfl
@[simp] theorem maskCheck_reqn : (maskCheck s).reqn = s.reqn := by
  unfold maskCheck; split <;> rfl
@[simp] theorem maskCheck_rdyMask : (maskCheck s).rdyMask = (if s.mode == .edge && qIsFull s.cfg s.rxq then true else s.rdyMask) := by
  unfold maskCheck; split <;> rfl
@[simp] theorem maskCheck_attached : (maskCheck s).attached = s.attached := by
  unfold maskCheck; split <;> rfl
@[simp] theorem maskCheck_rdyPend : (maskCheck s).rdyPend = s.rdyPend := by
  unfold maskCheck; split <;> rfl
@[simp] theorem maskCheck_rdyn : (maskCheck s).rdyn = s.rdyn := by
  unfold maskCheck; split <;> rfl
@[simp] theorem maskCheck_svcSt : (maskCheck s).svcSt = s.svcSt := by
  unfold maskCheck; split <;> rfl
@[simp] theorem maskCheck_txb : (maskCheck s).txb = s.txb := by
  unfold maskCheck; split <;> rfl
@[simp] theorem maskCheck_rxb : (maskCheck s).rxb = s.rxb := by
  unfold maskCheck; split <;> rfl
@[simp] theorem maskCheck_ld : (maskCheck s).ld = s.ld := by
  unfold maskCheck; split <;> rfl
@[simp] theorem maskCheck_mb : (maskCheck s).mb = s.mb := by
  unfold maskCheck; split <;> rfl
@[simp] theorem maskCheck_k : (maskCheck s).k = s.k := by
  unfold maskCheck; split <;> rfl
@[simp] theorem maskCheck_fatal : (maskCheck s).fatal = s.fatal := by
  unfold maskCheck; split <;> rfl
@[simp] theorem maskCheck_fatalCause : (maskCheck s).fatalCause = s.fatalCause := by
  unfold maskCheck; split <;> rfl
@[simp] theorem maskCheck_initDone : (maskCheck s).initDone = s.initDone := by
  unfold maskCheck; split <;> rfl
@[simp] theorem maskCheck_debugEn : (maskCheck s).debugEn = s.debugEn := by
  unfold maskCheck; split <;> rfl
@[simp] theorem maskCheck_hcmd : (maskCheck s).hcmd = s.hcmd := by
  unfold maskCheck; split <;> rfl
@[simp] theorem maskCheck_cmdPort : (maskCheck s).cmdPort = s.cmdPort := by
  unfold maskCheck; split <;> rfl
@[simp] theorem maskCheck_devAnswers : (maskCheck s).devAnswers = s.devAnswers := by
  unfold maskCheck; split <;> rfl
@[simp] theorem maskCheck_pincfg : (maskCheck s).pincfg = s.pincfg := by
  unfold maskCheck; split <;> rfl
@[simp] theorem maskCheck_turns : (maskCheck s).turns = s.turns := by
  unfold maskCheck; split <;> rfl
@[simp] theorem maskCheck_draws : (maskCheck s).draws = s.draws := by
  unfold maskCheck; split <;> rfl
@[simp] theorem maskCheck_responses : (maskCheck s).responses = s.responses := by
  unfold maskCheck; split <;> rfl
@[simp] theorem maskCheck_wire : (maskCheck s).wire = s.wire := by
  unfold maskCheck; split <;> rfl
@[simp] theorem maskCheck_diag : (maskCheck s).diag = s.diag := by
  unfold maskCheck; split <;> rfl
@[simp] theorem maskCheck_pincfgOut : (maskCheck s).pincfgOut = s.pincfgOut := by
  unfold maskCheck; split <;> rfl
@[simp] theorem maskCheck_primOk : (maskCheck s).primOk = s.primOk := by
  unfold maskCheck; split <;> rfl
@[simp] theorem maskCheck_primOut : (maskCheck s).primOut = s.primOut := by
  unfold maskCheck; split <;> rfl

@[simp] theorem unmaskCheck_cfg (ok wasFull : Bool) : (unmaskCheck ok wasFull s).cfg = s.cfg := by
  unfold unmaskCheck; split <;> rfl
@[simp] theorem unmaskCheck_txq (ok wasFull : Bool) : (unmaskCheck ok wasFull s).txq = s.txq := by
  unfold unmaskCheck; split <;> rfl
@[simp] theorem unmaskCheck_rxq (ok wasFull : Bool) : (unmaskCheck ok wasFull s).rxq = s.rxq := by
  unfold unmaskCheck; split <;> rfl
@[simp] theorem unmaskCheck_mode (ok wasFull : Bool) : (unmaskCheck ok wasFull s).mode = s.mode := by
  unfold unmaskCheck; split <;> rfl
@[simp] theorem unmaskCheck_reqn (ok wasFull : Bool) : (unmaskCheck ok wasFull s).reqn = s.reqn := by
  unfold unmaskCheck; split <;> rfl
@[simp] theorem unmaskCheck_rdyMask (ok wasFull : Bool) : (unmaskCheck ok wasFull s).rdyMask = (if ok && wasFull && s.mode == .edge then false else s.rdyMask) := by
  unfold unmaskCheck; split <;> rfl
@[simp] theorem unmaskCheck_attached (ok wasFull : Bool) : (unmaskCheck ok wasFull s).attached = s.attached := by
  unfold unmaskCheck; split <;> rfl
@[simp] theorem unmaskCheck_rdyPend (ok wasFull : Bool) : (unmaskCheck ok wasFull s).rdyPend = s.rdyPend := by
  unfold unmaskCheck; split <;> rfl
@[simp] theorem unmaskCheck_rdyn (ok wasFull : Bool) : (unmaskCheck ok wasFull s).rdyn = s.rdyn := by
  unfold unmaskCheck; split <;> rfl
@[simp] theorem unmaskCheck_svcSt (ok wasFull : Bool) : (unmaskCheck ok wasFull s).svcSt = s.svcSt := by
  unfold unmaskCheck; split <;> rfl
@[simp] theorem unmaskCheck_txb (ok wasFull : Bool) : (unmaskCheck ok wasFull s).txb = s.txb := by
  unfold unmaskCheck; split <;> rfl
@[simp] theorem unmaskCheck_rxb (ok wasFull : Bool) : (unmaskCheck ok wasFull s).rxb = s.rxb := by
  unfold unmaskCheck; split <;> rfl
@[simp] theorem unmaskCheck_ld (ok wasFull : Bool) : (unmaskCheck ok wasFull s).ld = s.ld := by
  unfold unmaskCheck; split <;> rfl
@[simp] theorem unmaskCheck_mb (ok wasFull : Bool) : (unmaskCheck ok wasFull s).mb = s.mb := by
  unfold unmaskCheck; split <;> rfl
@[simp] theorem unmaskCheck_k (ok wasFull : Bool) : (unmaskCheck ok wasFull s).k = s.k := by
  unfold unmaskCheck; split <;> rfl
@[simp] theorem unmaskCheck_fatal (ok wasFull : Bool) : (unmaskCheck ok wasFull s).fatal = s.fatal := by
  unfold unmaskCheck; split <;> rfl
@[simp] theorem unmaskCheck_fatalCause (ok wasFull : Bool) : (unmaskCheck ok wasFull s).fatalCause = s.fatalCause := by
  unfold unmaskCheck; split <;> rfl
@[simp] theorem unmaskCheck_initDone (ok wasFull : Bool) : (unmaskCheck ok wasFull s).initDone = s.initDone := by
  unfold unmaskCheck; split <;> rfl
@[simp] theorem unmaskCheck_debugEn (ok wasFull : Bool) : (unmaskCheck ok wasFull s).debugEn = s.debugEn := by
  unfold unmaskCheck; split <;> rfl
@[simp] theorem unmaskCheck_hcmd (ok wasFull : Bool) : (unmaskCheck ok wasFull s).hcmd = s.hcmd := by
  unfold unmaskCheck; split <;> rfl
@[simp] theorem unmaskCheck_cmdPort (ok wasFull : Bool) : (unmaskCheck ok wasFull s).cmdPort = s.cmdPort := by
  unfold unmaskCheck; split <;> rfl
@[simp] theorem unmaskCheck_devAnswers (ok wasFull : Bool) : (unmaskCheck ok wasFull s).devAnswers = s.devAnswers := by
  unfold unmaskCheck; split <;> rfl
@[simp] theorem unmaskCheck_pincfg (ok wasFull : Bool) : (unmaskCheck ok wasFull s).pincfg = s.pincfg := by
  unfold unmaskCheck; split <;> rfl
@[simp] theorem unmaskCheck_turns (ok wasFull : Bool) : (unmaskCheck ok wasFull s).turns = s.turns := by
  unfold unmaskCheck; split <;> rfl
@[simp] theorem unmaskCheck_draws (ok wasFull : Bool) : (unmaskCheck ok wasFull s).draws = s.draws := by
  unfold unmaskCheck; split <;> rfl
@[simp] theorem unmaskCheck_responses (ok wasFull : Bool) : (unmaskCheck ok wasFull s).responses = s.responses := by
  unfold unmaskCheck; split <;> rfl
@[simp] theorem unmaskCheck_wire (ok wasFull : Bool) : (unmaskCheck ok wasFull s).wire = s.wire := by
  unfold unmaskCheck; split <;> rfl
@[simp] theorem unmaskCheck_diag (ok wasFull : Bool) : (unmaskCheck ok wasFull s).diag = s.diag := by
  unfold unmaskCheck; split <;> rfl
@[simp] theorem unmaskCheck_pincfgOut (ok wasFull : Bool) : (unmaskCheck ok wasFull s).pincfgOut = s.pincfgOut := by
  unfold unmaskCheck; split <;> rfl
@[simp] theorem unmaskCheck_primOk (ok wasFull : Bool) : (unmaskCheck ok wasFull s).primOk = s.primOk := by
  unfold unmaskCheck; split <;> rfl
@[simp] theorem unmaskCheck_primOut (ok wasFull : Bool) : (unmaskCheck ok wasFull s).primOut = s.primOut := by
  unfold unmaskCheck; split <;> rfl

@[simp] theorem popTurn_turns : (popTurn s).turns = s.turns.tail := by
  unfold popTurn; split <;> simp [*]
@[simp] theorem popTurn_cfg : (popTurn s).cfg = s.cfg := by
  unfold popTurn; split <;> rfl
@[simp] theorem popTurn_txq : (popTurn s).txq = s.txq := by
  unfold popTurn; split <;> rfl
@[simp] theorem popTurn_rxq : (popTurn s).rxq = s.rxq := by
  unfold popTurn; split <;> rfl
@[simp] theorem popTurn_mode : (popTurn s).mode = s.mode := by
  unfold popTurn; split <;> rfl
@[simp] theorem popTurn_reqn : (popTurn s).reqn = s.reqn := by
  unfold popTurn; split <;> rfl
@[simp] theorem popTurn_rdyMask : (popTurn s).rdyMask = s.rdyMask := by
  unfold popTurn; split <;> rfl
@[simp] theorem popTurn_attached : (popTurn s).attached = s.attached := by
  unfold popTurn; split <;> rfl
@[simp] theorem popTurn_rdyPend : (popTurn s).rdyPend = s.rdyPend := by
  unfold popTurn; split <;> rfl
@[simp] theorem popTurn_rdyn : (popTurn s).rdyn = s.rdyn := by
  unfold popTurn; split <;> rfl
@[simp] theorem popTurn_svcSt : (popTurn s).svcSt = s.svcSt := by
  unfold popTurn; split <;> rfl
@[simp] theorem popTurn_txb : (popTurn s).txb = s.txb := by
  unfold popTurn; split <;> rfl
@[simp] theorem popTurn_rxb : (popTurn s).rxb = s.rxb := by
  unfold popTurn; split <;> rfl
@[simp] theorem popTurn_ld : (popTurn s).ld = s.ld := by
  unfold popTurn; split <;> rfl
@[simp] theorem popTurn_mb : (popTurn s).mb = s.mb := by
  unfold popTurn; split <;> rfl
@[simp] theorem popTurn_k : (popTurn s).k = s.k := by
  unfold popTurn; split <;> rfl
@[simp] theorem popTurn_fatal : (popTurn s).fatal = s.fatal := by
  unfold popTurn; split <;> rfl
@[simp] theorem popTurn_fatalCause : (popTurn s).fatalCause = s.fatalCause := by
  unfold popTurn; split <;> rfl
@[simp] theorem popTurn_initDone : (popTurn s).initDone = s.initDone := by
  unfold popTurn; split <;> rfl
@[simp] theorem popTurn_debugEn : (popTurn s).debugEn = s.debugEn := by
  unfold popTurn; split <;> rfl
@[simp] theorem popTurn_hcmd : (popTurn s).hcmd = s.hcmd := by
  unfold popTurn; split <;> rfl
@[simp] theorem popTurn_cmdPort : (popTurn s).cmdPort = s.cmdPort := by
  unfold popTurn; split <;> rfl
@[simp] theorem popTurn_devAnswers : (popTurn s).devAnswers = s.devAnswers := by
  unfold popTurn; split <;> rfl
@[simp] theorem popTurn_pincfg : (popTurn s).pincfg = s.pincfg := by
  unfold popTurn; split <;> rfl
@[simp] theorem popTurn_responses : (popTurn s).responses = s.responses := by
  unfold popTurn; split <;> rfl
@[simp] theorem popTurn_wire : (popTurn s).wire = s.wire := by
  unfold popTurn; split <;> rfl
@[simp] theorem popTurn_diag : (popTurn s).diag = s.diag := by
  unfold popTurn; split <;> rfl
@[simp] theorem popTurn_pincfgOut : (popTurn s).pincfgOut = s.pincfgOut := by
  unfold popTurn; split <;> rfl
@[simp] theorem popTurn_primOk : (popTurn s).primOk = s.primOk := by
  unfold popTurn; split <;> rfl
@[simp] theorem popTurn_primOut : (popTurn s).primOut = s.primOut := by
  unfold popTurn; split <;> rfl

end Sys2Proof.Machine
end

