-- ==== Sys2Proof/Laws/Ops.lean ====
section
/-! SUPPORT. One lemma for each shared operation that says everything it can do. -/

namespace Sys2Proof.Machine

variable {s t : State}

/-! ### Queue primitives -/

theorem qIsEmpty_iff {q : Queue} : qIsEmpty q = true ↔ q.head = q.tail := by simp [qIsEmpty]

theorem qIsFull_iff {c : Config} {q : Queue} : qIsFull c q = true ↔ nextIndex c q.tail = q.head := by
  simp [qIsFull]

theorem nextIndex_lt {c : Config} (hc : 0 < c.qdepth) (i : Nat) : nextIndex c i < c.qdepth :=
  Nat.mod_lt _ hc

@[simp] theorem qInit_head (c : Config) (q : Queue) : (qInit c q).head = 0 := rfl

@[simp] theorem qInit_tail (c : Config) (q : Queue) : (qInit c q).tail = 0 := rfl

@[simp] theorem qInit_mem (c : Config) (q : Queue) : (qInit c q).mem = zeroLengths c c.qdepth q.mem := rfl

/-- R103: everything Q_ENQUEUE can answer. -/
theorem qEnqueue_cases (c : Config) (q : Queue) (p : Packet) (d : Nat) :
    (qEnqueue c q p d = .error .qOverlen ∧ c.maxLen < p.length.toNat) ∨
    (qEnqueue c q p d = .ok none ∧ p.length.toNat ≤ c.maxLen ∧ qIsFull c q = true) ∨
    (qEnqueue c q p d = .error .slotRange ∧ p.length.toNat ≤ c.maxLen ∧ qIsFull c q = false ∧ c.qdepth ≤ q.tail) ∨
    (p.length.toNat ≤ c.maxLen ∧ qIsFull c q = false ∧ q.tail < c.qdepth ∧
      qEnqueue c q p d = .ok (some
        ⟨Memory.writeList q.mem (slotAddr c q.tail 0) (0 :: p.length :: Packet.body p d), q.head,
          nextIndex c q.tail⟩)) := by
  unfold qEnqueue
  split
  · exact .inl ⟨rfl, by assumption⟩
  · rename_i hlen
    split
    · exact .inr (.inl ⟨rfl, by omega, by assumption⟩)
    · rename_i hfull
      split
      · exact .inr (.inr (.inr ⟨by omega, by simpa using hfull, by assumption, rfl⟩))
      · exact .inr (.inr (.inl ⟨rfl, by omega, by simpa using hfull, by omega⟩))

/-- R105: everything Q_PEEK can answer. -/
theorem qPeek_cases (c : Config) (q : Queue) (d : Nat) :
    (qPeek c q d = .ok none ∧ qIsEmpty q = true) ∨
    (qPeek c q d = .error .slotRange ∧ qIsEmpty q = false ∧ c.qdepth ≤ q.head) ∨
    (qPeek c q d = .ok (some (headPacket c q d)) ∧ qIsEmpty q = false ∧ q.head < c.qdepth) := by
  unfold qPeek
  split
  · exact .inl ⟨rfl, by assumption⟩
  · rename_i he
    split
    · exact .inr (.inr ⟨rfl, by simpa using he, by assumption⟩)
    · exact .inr (.inl ⟨rfl, by simpa using he, by omega⟩)

/-- R104: everything Q_DEQUEUE can answer. -/
theorem qDequeue_cases (c : Config) (q : Queue) (d : Nat) :
    (qDequeue c q d = .ok none ∧ qIsEmpty q = true) ∨
    (qDequeue c q d = .error .slotRange ∧ qIsEmpty q = false ∧ c.qdepth ≤ q.head) ∨
    (qDequeue c q d = .ok (some (headPacket c q d, { q with head := nextIndex c q.head })) ∧
      qIsEmpty q = false ∧ q.head < c.qdepth) := by
  unfold qDequeue
  rcases qPeek_cases c q d with ⟨h, h1⟩ | ⟨h, h1⟩ | ⟨h, h1⟩ <;> simp [h, h1]

/-- R104: the packet of a slot whose status and length have been written. -/
theorem headPacket_of_written {c : Config} {q : Queue} {d : Nat} {st len : Byte}
    (hs : Queue.slotByte c q q.head 0 = some st) (hl : Queue.slotByte c q q.head 1 = some len) :
    headPacket c q d =
      ⟨st, len, Memory.slice q.mem (slotAddr c q.head 2) 0 (min len.toNat c.maxLen)⟩ := by
  unfold Queue.slotByte at hs hl
  simp [headPacket, hs, hl]

/-! ### Packets and exchanges -/

/-- R44: HCMD.step is the index after that of the micro-step HCMD is at. -/
@[simp] theorem hostCommand_step (i : Instr) (n : Nat) (ok : Bool) : HostCommand.step ⟨i, n, ok⟩ = n + 1 := rfl

@[simp] theorem packet_body_length (p : Packet) (d : Nat) : (Packet.body p d).length = p.length.toNat := by
  simp [Packet.body]

/-- R86: the image is `2 + MAX_LEN` bytes. -/
@[simp] theorem packet_image_length (p : Packet) (c : Config) (d : Nat) :
    (Packet.image p c d).length = 2 + c.maxLen := by
  simp [Packet.image]; omega

/-- A defined byte of a packet is no draw. -/
theorem byteAt_of_read {p : Packet} {j : Nat} {b : Byte} (d : Nat) (h : Memory.read p.payload j = some b) :
    Packet.byteAt p d j = b := by
  simp [Packet.byteAt, h]

/-- The payload of a packet written out is the bytes it is made of. -/
theorem body_ofBytes (st len : Byte) (payload : List Byte) (d : Nat) (h : payload.length = len.toNat) :
    Packet.body (Packet.ofBytes st len payload) d = payload := by
  apply List.ext_getElem
  · simp [Packet.ofBytes, h]
  · intro j h1 h2
    simp [Packet.body, Packet.byteAt, Packet.ofBytes, Memory.read_ofList, h2]

/-- R10: one exchange. -/
theorem exchange_received (b : Byte) (s : State) :
    (exchange b s).1 = s.devAnswers.head?.getD (Config.freeAnswer s.draws) := rfl

/-- R125: the count is within MAX_LEN, sends the whole outgoing frame and receives all the device declared. -/
theorem maxBytes_bounds (c : Config) (lh ld : Nat) :
    maxBytes c lh ld ≤ c.maxLen ∧ min ld c.maxLen ≤ maxBytes c lh ld ∧
      min (lh - 1) c.maxLen ≤ maxBytes c lh ld := by
  unfold maxBytes
  split <;> omega

/-- R124: everything S_HDR1 writes, with the byte it receives. -/
theorem headerLength_eq (s : State) {r : Byte} (hr : s.devAnswers.head?.getD (Config.freeAnswer s.draws) = r) :
    headerLength s =
      { s with
        devAnswers := s.devAnswers.tail
        wire := s.wire ++ [⟨txframe s.txb s.draws 1, r⟩]
        draws := s.draws + 1
        ld := r
        rxb := ⟨0, BitVec.ofNat 8 (min r.toNat s.cfg.maxLen), []⟩
        mb := BitVec.ofNat 8 (maxBytes s.cfg s.txb.length.toNat r.toNat)
        k := 0
        svcSt := if 0 < maxBytes s.cfg s.txb.length.toNat r.toNat then .sBody else .sEnd } := by
  subst hr; rfl

/-- R126: everything S_BODY writes, with the byte it receives. -/
theorem bodyExchange_eq (s : State) {r : Byte} (hr : s.devAnswers.head?.getD (Config.freeAnswer s.draws) = r)
    (hk : s.k.toNat < s.mb.toNat) (hm : s.mb.toNat ≤ s.cfg.maxLen) :
    bodyExchange s = .next
      { s with
        devAnswers := s.devAnswers.tail
        wire := s.wire ++ [⟨txframe s.txb s.draws (2 + s.k.toNat), r⟩]
        draws := s.draws + 1
        rxb := { s.rxb with payload := Memory.write s.rxb.payload s.k.toNat r }
        k := s.k + 1
        svcSt := if s.k + 1 = s.mb then .sEnd else .sBody } := by
  subst hr
  exact if_pos ⟨hk, hm⟩

/-! ### Host commands and service steps -/

/-- Everything a host micro-step can do: it waits, is refused before INIT, or runs the command's list. -/
theorem hostMicro_cases (i : Instr) (needsInit : Bool) (micro : Nat → State → Result) (s : State) :
    (hostReady i s = false ∧ hostMicro i needsInit micro s = .next s) ∨
    (hostReady i s = true ∧ s.hcmd = none ∧ needsInit = true ∧ s.initDone = false ∧
      hostMicro i needsInit micro s = .next (respond .notInit false [] s)) ∨
    (hostReady i s = true ∧ s.hcmd = none ∧ (needsInit = true → s.initDone = true) ∧
      hostMicro i needsInit micro s = micro 0 s) ∨
    (∃ h, hostReady i s = true ∧ s.hcmd = some h ∧ hostMicro i needsInit micro s = micro h.step s) := by
  unfold hostMicro
  cases hr : hostReady i s with
  | false => simp
  | true =>
    cases hh : s.hcmd with
    | none =>
      cases needsInit <;> cases hi : s.initDone <;> simp
    | some h => simp

/-- A command accepted by a HOST that is free runs its first micro-step. -/
theorem hostMicro_first {i : Instr} {needsInit : Bool} {micro : Nat → State → Result}
    (hf : s.fatal = false) (hs : s.svcSt = .sIdle) (hc : s.hcmd = none)
    (hi : needsInit = true → s.initDone = true) :
    hostMicro i needsInit micro s = micro 0 s := by
  unfold hostMicro hostReady hostEnabled
  cases needsInit <;> simp_all

/-- A command in progress runs the micro-step that HCMD names. -/
theorem hostMicro_continue {i : Instr} {needsInit : Bool} {micro : Nat → State → Result} {n : Nat} {ok : Bool}
    (hf : s.fatal = false) (hs : s.svcSt = .sIdle) (hc : s.hcmd = some ⟨i, n, ok⟩) :
    hostMicro i needsInit micro s = micro (n + 1) s := by
  unfold hostMicro hostReady hostEnabled
  simp_all

/-- R15, R16, R18: where HOST is not enabled a command waits. -/
theorem hostMicro_waits {i : Instr} {needsInit : Bool} {micro : Nat → State → Result}
    (h : s.fatal = true ∨ s.svcSt ≠ .sIdle) : hostMicro i needsInit micro s = .next s := by
  unfold hostMicro hostReady hostEnabled
  rcases h with h | h <;> simp [h]

/-- Everything a step of the service sequence can do. -/
theorem svcStep_cases (st : SvcState) (body : State → Result) (s : State) :
    (s.svcSt = st ∧ s.fatal = false ∧ svcStep st body s = body s) ∨
    (¬(s.svcSt = st ∧ s.fatal = false) ∧ svcStep st body s = .fault .svcPrecondition) := by
  unfold svcStep svcReady
  by_cases h1 : s.svcSt = st <;> cases h2 : s.fatal <;> simp [h1]

theorem svcStep_at {st : SvcState} {body : State → Result} (h : s.svcSt = st) (hf : s.fatal = false) :
    svcStep st body s = body s := by
  simp [svcStep, svcReady, h, hf]

/-! ### Bridge and flow controller -/

/-- R142: when a service may start. -/
theorem startEnabled_iff :
    startEnabled s = true ↔ s.mode = .edge ∧ s.initDone = true ∧ s.fatal = false ∧ s.svcSt = .sIdle ∧
      s.rdyPend = true ∧ s.attached = true ∧ s.rdyMask = false := by
  simp [startEnabled, and_assoc]

/-- R161: everything the mask check can do. -/
theorem maskCheck_cases (s : State) :
    (s.mode = .edge ∧ qIsFull s.cfg s.rxq = true ∧ maskCheck s = { s with rdyMask := true }) ∨
    (¬(s.mode = .edge ∧ qIsFull s.cfg s.rxq = true) ∧ maskCheck s = s) := by
  unfold maskCheck
  by_cases h1 : s.mode = .edge <;> cases h2 : qIsFull s.cfg s.rxq <;> simp [h1]

/-- R162: everything the unmask check can do. -/
theorem unmaskCheck_cases (ok wasFull : Bool) (s : State) :
    (ok = true ∧ wasFull = true ∧ s.mode = .edge ∧ unmaskCheck ok wasFull s = { s with rdyMask := false }) ∨
    (¬(ok = true ∧ wasFull = true ∧ s.mode = .edge) ∧ unmaskCheck ok wasFull s = s) := by
  unfold unmaskCheck
  cases ok <;> cases wasFull <;> by_cases h1 : s.mode = .edge <;> simp [h1]

/-- R146: everything the poll can do. -/
theorem pollCheck_cases (s : State) :
    (qIsFull s.cfg s.rxq = true ∧ pollCheck s = s) ∨
    (qIsFull s.cfg s.rxq = false ∧ s.rdyn = true ∧ qIsEmpty s.txq = true ∧ pollCheck s = s) ∨
    (qIsFull s.cfg s.rxq = false ∧ s.rdyn = true ∧ qIsEmpty s.txq = false ∧
      pollCheck s = { s with reqn := false }) ∨
    (qIsFull s.cfg s.rxq = false ∧ s.rdyn = false ∧ pollCheck s = { s with svcSt := .sStart }) := by
  unfold pollCheck
  cases h1 : qIsFull s.cfg s.rxq <;> cases h2 : s.rdyn <;> cases h3 : qIsEmpty s.txq <;> simp

/-- R146, R218: everything the poll of a polling command can do. -/
theorem pollFirst_cases (i : Instr) (s : State) :
    (qIsFull s.cfg s.rxq = true ∧ pollFirst i s = { s with hcmd := some ⟨i, 0, false⟩ }) ∨
    (qIsFull s.cfg s.rxq = false ∧ s.rdyn = true ∧ qIsEmpty s.txq = true ∧
      pollFirst i s = { s with hcmd := some ⟨i, 0, false⟩ }) ∨
    (qIsFull s.cfg s.rxq = false ∧ s.rdyn = true ∧ qIsEmpty s.txq = false ∧
      pollFirst i s = { s with reqn := false, hcmd := some ⟨i, 0, false⟩ }) ∨
    (qIsFull s.cfg s.rxq = false ∧ s.rdyn = false ∧
      pollFirst i s = { s with svcSt := .sStart, hcmd := some ⟨i, 0, false⟩ }) := by
  unfold pollFirst
  rcases pollCheck_cases s with ⟨h, hp⟩ | ⟨h, hr, he, hp⟩ | ⟨h, hr, he, hp⟩ | ⟨h, hr, hp⟩ <;> simp [*]

/-- R183, R184, R191: everything the micro-steps of a polling command can do. -/
theorem pollThen_cases (i : Instr) (body : State → Result) (n : Nat) (s : State) :
    (n = 0 ∧ s.mode = .polled ∧ pollThen i body n s = .next (pollFirst i s)) ∨
    (n ≤ 1 ∧ ¬(n = 0 ∧ s.mode = .polled) ∧ pollThen i body n s = body s) ∨
    (2 ≤ n ∧ pollThen i body n s = .fault .microStepRange) := by
  match n with
  | 0 =>
    by_cases h : s.mode = .polled
    · exact .inl ⟨rfl, h, if_pos h⟩
    · exact .inr (.inl ⟨by omega, by simpa using h, if_neg h⟩)
  | 1 => exact .inr (.inl ⟨by omega, by omega, rfl⟩)
  | m + 2 => exact .inr (.inr ⟨by omega, rfl⟩)

/-- R146, R241: when POLL_CHECK runs as an operation of its own. -/
theorem pollEnabled_iff :
    pollEnabled s = true ↔
      s.fatal = false ∧ s.svcSt = .sIdle ∧ s.initDone = true ∧ s.mode = .polled ∧ s.hcmd = none := by
  simp [pollEnabled, hostEnabled, and_assoc]

/-! ### Scheduling -/

/-- Everything HOST's turn can select. -/
theorem hostOperation_cases (s : State) :
    (hostOperation s = (none, s)) ∨
    (∃ h, hostEnabled s = true ∧ s.hcmd = some h ∧ hostOperation s = (some h.instr, s)) ∨
    (∃ i rest, hostEnabled s = true ∧ s.hcmd = none ∧ decode s.cmdPort = .ok (i, rest) ∧
      hostOperation s = (some i, { s with cmdPort := rest })) := by
  unfold hostOperation
  cases he : hostEnabled s with
  | false => simp
  | true =>
    cases hc : s.hcmd with
    | some h => simp
    | none =>
      cases hd : decode s.cmdPort with
      | error e => simp
      | ok v => obtain ⟨i, rest⟩ := v; simp

/-- A step is the meaning of the operation it selects, or the turn passes. -/
theorem step_cases (s : State) :
    (∃ i, nextOperation s = (some i, (nextOperation s).2) ∧ step s = exec i (nextOperation s).2) ∨
    ((nextOperation s).1 = none ∧ step s = .next (nextOperation s).2) := by
  unfold step
  rcases h : nextOperation s with ⟨o, s'⟩
  cases o <;> simp

/-! ### Runs -/

/-- One more step of a run, of any machine. -/
theorem run_succ (M : Host.Core) (n : Nat) (s : M.State) :
    M.run (n + 1) s =
      match M.step s with
      | .next s' => M.run n s'
      | .fault r => .fault r
      | .refused r => .refused r := rfl

/-- A run whose first step goes on. -/
theorem core_run_of_step {s t : State} (n : Nat) (h : step s = .next t) :
    Host.Core.run Sys2Proof.core (n + 1) s = Host.Core.run Sys2Proof.core n t := by
  refine (run_succ Sys2Proof.core n s).trans ?_
  have h' : Sys2Proof.core.step s = .next t := h
  rw [h']

/-- A listed SVC turn runs the step that SVC_ST names. -/
theorem step_svc {s : State} {turns : List Turn} {i : Instr} (ht : s.turns = .svc :: turns)
    (hf : s.fatal = false) (hi : svcInstr s.svcSt = some i) :
    step s = exec i { s with turns := turns } := by
  simp [step, nextOperation, currentTurn, popTurn, agentOperation, svcOperation, ht, hf, hi]

end Sys2Proof.Machine
end

