-- ==== Sys2Proof/Laws/PerInstr.lean ====
section
/-! SUPPORT. The length of each command (R83, R90, R91): the family `CommandLength`. -/

namespace Sys2Proof.Laws

/-- R83, R91: the encoding of a well-formed command is at least its command word and at most `longestCommand` bytes. -/
def CommandLength.Statement (i : Instr) : Prop :=
  i.wf = true → ∀ bs, encode i = some bs → 1 ≤ bs.length ∧ bs.length ≤ longestCommand

/-- A command of a fixed encoding. -/
theorem commandLength_of_some {i : Instr} {word : List Byte} (h : encode i = some word)
    (hn : 1 ≤ word.length ∧ word.length ≤ longestCommand) : CommandLength.Statement i := by
  intro _ bs hb
  rw [h] at hb
  cases hb
  exact hn

/-- R94: an internal operation has no encoding. -/
theorem commandLength_of_none {i : Instr} (h : encode i = none) : CommandLength.Statement i := by
  intro _ bs hb
  rw [h] at hb
  cases hb

theorem CommandLength.init (mode : Mode) : CommandLength.Statement (.init mode) :=
  commandLength_of_some rfl (by simp [longestCommand])

theorem CommandLength.send (payload : List Byte) : CommandLength.Statement (.send payload) := by
  intro hw bs hb
  cases hb
  simp only [Instr.wf, decide_eq_true_eq] at hw
  simp only [List.length_cons, longestCommand]
  omega

theorem CommandLength.peekEvent : CommandLength.Statement .peekEvent :=
  commandLength_of_some rfl (by decide)

theorem CommandLength.getEvent : CommandLength.Statement .getEvent :=
  commandLength_of_some rfl (by decide)

theorem CommandLength.txqEmpty : CommandLength.Statement .txqEmpty :=
  commandLength_of_some rfl (by decide)

theorem CommandLength.txqFull : CommandLength.Statement .txqFull :=
  commandLength_of_some rfl (by decide)

theorem CommandLength.rxqEmpty : CommandLength.Statement .rxqEmpty :=
  commandLength_of_some rfl (by decide)

theorem CommandLength.rxqFull : CommandLength.Statement .rxqFull :=
  commandLength_of_some rfl (by decide)

theorem CommandLength.flush : CommandLength.Statement .flush :=
  commandLength_of_some rfl (by decide)

theorem CommandLength.debugSet (e : Bool) : CommandLength.Statement (.debugSet e) :=
  commandLength_of_some rfl (by simp [longestCommand])

theorem CommandLength.illegal (cmd : Byte) (operands : List Byte) : CommandLength.Statement (.illegal cmd operands) := by
  intro hw bs hb
  cases hb
  have hl : operands.length ≤ 256 := by
    simp only [Instr.wf, Bool.and_eq_true, operandsFit] at hw
    have h := hw.1
    split at h
    · simp at h; omega
    · split at h
      · cases operands with
        | nil => simp
        | cons len payload =>
          have := len.isLt
          simp at h ⊢
          omega
      · simp at h; simp [h]
  simp only [List.length_cons, longestCommand]
  omega

theorem CommandLength.qIsEmpty (q : QueueName) : CommandLength.Statement (.qIsEmpty q) :=
  commandLength_of_none rfl

theorem CommandLength.qIsFull (q : QueueName) : CommandLength.Statement (.qIsFull q) :=
  commandLength_of_none rfl

theorem CommandLength.qInit (q : QueueName) : CommandLength.Statement (.qInit q) :=
  commandLength_of_none rfl

theorem CommandLength.qEnqueue (q : QueueName) (st len : Byte) (payload : List Byte) : CommandLength.Statement (.qEnqueue q st len payload) :=
  commandLength_of_none rfl

theorem CommandLength.qDequeue (q : QueueName) (dst : Option PacketReg) : CommandLength.Statement (.qDequeue q dst) :=
  commandLength_of_none rfl

theorem CommandLength.qPeek (q : QueueName) (dst : PacketReg) : CommandLength.Statement (.qPeek q dst) :=
  commandLength_of_none rfl

theorem CommandLength.qFlush : CommandLength.Statement .qFlush :=
  commandLength_of_none rfl

theorem CommandLength.sStart : CommandLength.Statement .sStart :=
  commandLength_of_none rfl

theorem CommandLength.sFetch : CommandLength.Statement .sFetch :=
  commandLength_of_none rfl

theorem CommandLength.sHdr0 : CommandLength.Statement .sHdr0 :=
  commandLength_of_none rfl

theorem CommandLength.sHdr1 : CommandLength.Statement .sHdr1 :=
  commandLength_of_none rfl

theorem CommandLength.sBody : CommandLength.Statement .sBody :=
  commandLength_of_none rfl

theorem CommandLength.sEnd : CommandLength.Statement .sEnd :=
  commandLength_of_none rfl

theorem CommandLength.sRearm : CommandLength.Statement .sRearm :=
  commandLength_of_none rfl

theorem CommandLength.svcStart : CommandLength.Statement .svcStart :=
  commandLength_of_none rfl

theorem CommandLength.sEntry : CommandLength.Statement .sEntry :=
  commandLength_of_none rfl

theorem CommandLength.sPost : CommandLength.Statement .sPost :=
  commandLength_of_none rfl

theorem CommandLength.sExit : CommandLength.Statement .sExit :=
  commandLength_of_none rfl

theorem CommandLength.pollCheck : CommandLength.Statement .pollCheck :=
  commandLength_of_none rfl

theorem CommandLength.devRdyn (level : Bool) : CommandLength.Statement (.devRdyn level) :=
  commandLength_of_none rfl

theorem CommandLength.maskCheck : CommandLength.Statement .maskCheck :=
  commandLength_of_none rfl

theorem CommandLength.unmaskCheck (ok wasFull : Bool) : CommandLength.Statement (.unmaskCheck ok wasFull) :=
  commandLength_of_none rfl

theorem CommandLength.rst : CommandLength.Statement .rst :=
  commandLength_of_none rfl

theorem CommandLength.fatal (cause : Byte) : CommandLength.Statement (.fatal cause) :=
  commandLength_of_none rfl

end Sys2Proof.Laws
end

