-- ==== Sys2Proof/Laws/Queue.lean ====
section
/-! SUPPORT. The circular queue: its index arithmetic, and which bytes an enqueue and a dequeue touch. -/

namespace Sys2Proof.Machine

variable {c : Config} {q : Queue}

/-- R9: `next` without the modulus. -/
theorem nextIndex_eq {i : Nat} (hi : i < c.qdepth) :
    nextIndex c i = if i + 1 = c.qdepth then 0 else i + 1 := by
  unfold nextIndex
  split
  · rename_i h; rw [h, Nat.mod_self]
  · exact Nat.mod_eq_of_lt (by omega)

/-- R107: the count without the modulus. -/
theorem count_eq (hh : q.head < c.qdepth) (ht : q.tail < c.qdepth) :
    Queue.count c q = if q.head ≤ q.tail then q.tail - q.head else q.tail + c.qdepth - q.head := by
  unfold Queue.count
  split
  · rename_i h
    rw [show q.tail + c.qdepth - q.head = (q.tail - q.head) + c.qdepth by omega, Nat.add_mod_right,
      Nat.mod_eq_of_lt (by omega)]
  · exact Nat.mod_eq_of_lt (by omega)

/-- The slot of the n-th oldest entry without the modulus. -/
theorem slotOf_eq (hh : q.head < c.qdepth) {n : Nat} (hn : n < c.qdepth) :
    Queue.slotOf c q n = if q.head + n < c.qdepth then q.head + n else q.head + n - c.qdepth := by
  unfold Queue.slotOf
  split
  · exact Nat.mod_eq_of_lt (by assumption)
  · rename_i h
    rw [show q.head + n = (q.head + n - c.qdepth) + c.qdepth by omega, Nat.add_mod_right]
    rw [Nat.mod_eq_of_lt (by omega)]
    omega

theorem count_lt (hh : q.head < c.qdepth) : Queue.count c q < c.qdepth :=
  Nat.mod_lt _ (by omega)

/-- The oldest entry is at head. -/
theorem slotOf_zero (hh : q.head < c.qdepth) : Queue.slotOf c q 0 = q.head := by
  rw [slotOf_eq hh (by omega)]; simp [hh]

/-- The slot after the newest entry is tail. -/
theorem slotOf_count (hh : q.head < c.qdepth) (ht : q.tail < c.qdepth) :
    Queue.slotOf c q (Queue.count c q) = q.tail := by
  rw [slotOf_eq hh (count_lt hh), count_eq hh ht]
  split <;> split <;> omega

/-- No occupied slot is the one the next enqueue writes. -/
theorem slotOf_ne_tail (hh : q.head < c.qdepth) (ht : q.tail < c.qdepth) {n : Nat}
    (hn : n < Queue.count c q) : Queue.slotOf c q n ≠ q.tail := by
  have hc := count_lt (c := c) hh
  rw [slotOf_eq hh (by omega)]
  rw [count_eq hh ht] at hn
  split <;> split at hn <;> omega

/-- R107: empty is count 0. -/
theorem isEmpty_iff_count (hh : q.head < c.qdepth) (ht : q.tail < c.qdepth) :
    qIsEmpty q = true ↔ Queue.count c q = 0 := by
  rw [qIsEmpty_iff, count_eq hh ht]
  split <;> omega

/-- R107: full is count QDEPTH - 1. -/
theorem isFull_iff_count (hh : q.head < c.qdepth) (ht : q.tail < c.qdepth) :
    qIsFull c q = true ↔ Queue.count c q = c.qdepth - 1 := by
  rw [qIsFull_iff, count_eq hh ht, nextIndex_eq ht]
  split <;> split <;> omega

/-- The bytes that an enqueue leaves: status, length and payload of the tail slot, all else as before. -/
theorem slotByte_writeList {m : Memory} {i t k : Nat} {bs : List Byte} (hk : k < 2 + c.maxLen)
    (hb : bs.length ≤ 2 + c.maxLen) :
    Memory.read (Memory.writeList m (slotAddr c t 0) bs) (slotAddr c i k) =
      if i = t ∧ k < bs.length then bs[k]? else Memory.read m (slotAddr c i k) := by
  rw [Memory.read_writeList]
  by_cases hit : i = t
  · subst hit
    have h0 : slotAddr c i k - slotAddr c i 0 = k := by unfold slotAddr; omega
    rw [h0]
    by_cases hkb : k < bs.length
    · rw [if_pos (by unfold slotAddr; omega), if_pos ⟨rfl, hkb⟩]
    · rw [if_neg (by unfold slotAddr; omega), if_neg (by omega)]
  · rw [if_neg, if_neg (by tauto)]
    rintro ⟨h1, h2⟩
    apply hit
    have h3 : slotAddr c i k = slotAddr c t (slotAddr c i k - slotAddr c t 0) := by
      unfold slotAddr at *; omega
    refine (slotAddr_inj hk ?_ h3).1
    omega

end Sys2Proof.Machine
end

