-- ==== Sys2Proof/Tests/Slice0.lean ====
section
/-! SUPPORT. The model's own tests: what `WellFormed` refuses, command words written out from R81 to R84, one step of each
operation with the result that the spec gives, and a witness for the hypotheses of every obligation that has some. -/

namespace Sys2Proof.Tests

open Sys2Proof Sys2Proof.Machine

/-! ### Ill-formed terms -/

theorem test_wf_send_256 : (Instr.send (List.replicate 256 0)).wf = false := by
  rw [Instr.wf, List.length_replicate]; decide
theorem test_wf_send_255 : (Instr.send (List.replicate 255 0)).wf = true := by
  rw [Instr.wf, List.length_replicate]; decide
theorem test_wf_illegal_legal_word : (Instr.illegal 0x01 [0x01]).wf = false := by decide
theorem test_wf_illegal_operands : (Instr.illegal 0x0B [0x00]).wf = false := by decide
theorem test_wf_illegal_short_send : (Instr.illegal 0x12 [0x03, 0xAA]).wf = false := by decide
theorem test_wf_illegal : (Instr.illegal 0x12 [0x03, 0xAA, 0xBB, 0xCC]).wf = true := by decide
theorem test_wf_enqueue_length : (Instr.qEnqueue .tx 0 2 [0xAA]).wf = false := by decide
theorem test_wf_fatal_cause : (Instr.fatal 2).wf = false := by decide

/-! ### Decoding: each word is written out from R81 to R84; HV numbers are those of 95_test_vectors.md -/

/-- The command of a byte list, where it is read whole. -/
def decoded (bs : List Byte) : Option Instr :=
  match decode bs with
  | .ok (i, []) => some i
  | _ => none

theorem test_decode_init_polled : decoded [0b00000001, 0b00000000] = some (.init .polled) := by decide
theorem test_decode_init_edge : decoded [0b00000001, 0b00000001] = some (.init .edge) := by decide
theorem test_decode_send : decoded [0b00000010, 0x03, 0x11, 0x22, 0x33] = some (.send [0x11, 0x22, 0x33]) := by decide
theorem test_decode_send_null : decoded [0b00000010, 0x00] = some (.send []) := by decide
theorem test_decode_peek_event : decoded [0b00000011] = some .peekEvent := by decide
theorem test_decode_get_event : decoded [0b00000100] = some .getEvent := by decide
theorem test_decode_txq_empty : decoded [0b00000101] = some .txqEmpty := by decide
theorem test_decode_txq_full : decoded [0b00000110] = some .txqFull := by decide
theorem test_decode_rxq_empty : decoded [0b00000111] = some .rxqEmpty := by decide
theorem test_decode_rxq_full : decoded [0b00001000] = some .rxqFull := by decide
theorem test_decode_flush : decoded [0b00001001] = some .flush := by decide
theorem test_decode_debug_on : decoded [0b00001010, 0b00000001] = some (.debugSet true) := by decide
theorem test_decode_debug_off : decoded [0b00001010, 0b00000000] = some (.debugSet false) := by decide
/-- HV7, HV8, HV9: reserved opcodes take no operand. -/
theorem test_decode_reserved :
    decoded [0x00] = some (.illegal 0x00 []) ∧ decoded [0x0B] = some (.illegal 0x0B []) ∧
    decoded [0x0C] = some (.illegal 0x0C []) ∧ decoded [0x0D] = some (.illegal 0x0D []) ∧
    decoded [0x0E] = some (.illegal 0x0E []) ∧ decoded [0x0F] = some (.illegal 0x0F []) := by decide
/-- HV10, HV11: RSV is not 0, and the operand bytes of OP are consumed. -/
theorem test_decode_rsv :
    decoded [0x15] = some (.illegal 0x15 []) ∧
    decoded [0x12, 0x03, 0xAA, 0xBB, 0xCC] = some (.illegal 0x12 [0x03, 0xAA, 0xBB, 0xCC]) := by decide
/-- HV12, HV13, HV14: reserved operand bits. -/
theorem test_decode_operand_bits :
    decoded [0x01, 0x02] = some (.illegal 0x01 [0x02]) ∧ decoded [0x01, 0x80] = some (.illegal 0x01 [0x80]) ∧
    decoded [0x0A, 0x03] = some (.illegal 0x0A [0x03]) := by decide
/-- R91: bytes are missing. -/
theorem test_decode_truncated :
    decode [] = .error .noCommand ∧ decode [0x01] = .error .truncated ∧
    decode [0x02, 0x02, 0xAA] = .error .truncated := by decide
/-- The two functions the host calls: PEEK_EVENT right after reset is answered NOT_INIT (R180). -/
theorem test_table_word : decodeTableWord 8 0x03 = some .peekEvent := by decide
theorem test_fetch_word :
    (match step (State.reset.withFetchWord 8 0x03) with
      | .next t => t.responses
      | _ => []) = [⟨0x04, []⟩] := by decide

/-! ### States for the tests: right after INIT, at QDEPTH 4 and MAX_LEN 31 -/

/-- What one step leaves of a state, where it goes on. -/
def after {α : Type} (r : Result) (f : State → α) : Option α :=
  match r with
  | .next s => some (f s)
  | _ => none

/-- INIT POLLED after reset. -/
def polled : State := { State.reset with initDone := true }

/-- INIT EDGE after reset. -/
def edge : State := { State.reset with mode := .edge, initDone := true, attached := true }

/-- The queue of the one packet of QV2: {0, 2, [0xAA, 0xBB]}. -/
def oneEntry : Queue := ⟨[(0, 0), (1, 2), (2, 0xAA), (3, 0xBB)], 0, 1⟩

/-- The same packet in the last slot: the next index is 0. -/
def lastEntry : Queue := ⟨[(99, 0), (100, 2), (101, 0xAA), (102, 0xBB)], 3, 0⟩

/-- Three packets of one byte: count is QDEPTH - 1. -/
def fullQueue : Queue :=
  ⟨[(0, 0), (1, 1), (2, 0xA0), (33, 0), (34, 1), (35, 0xA1), (66, 0), (67, 1), (68, 0xA2)], 0, 3⟩

/-- Two packets of one byte: one more fills the queue. -/
def nearlyFull : Queue := ⟨[(0, 0), (1, 1), (2, 0xA0), (33, 0), (34, 1), (35, 0xA1)], 0, 2⟩

/-- A service in EDGE mode at one of its steps. -/
def inService (st : SvcState) : State := { edge with attached := false, svcSt := st }

theorem test_reset_stores : State.reset.Canonical := by decide

/-! ### Queue primitives: QV1 to QV17 -/

theorem test_is_empty : after (exec (.qIsEmpty .tx) { polled with txq := oneEntry }) (·.primOk) = some false := by decide
theorem test_is_full : after (exec (.qIsFull .rx) { polled with rxq := fullQueue }) (·.primOk) = some true := by decide
theorem test_q_init : after (exec (.qInit .rx) { polled with rxq := lastEntry })
    (fun t => (t.rxq.head, t.rxq.tail, Memory.read t.rxq.mem 100)) = some (0, 0, some 0) := by decide
theorem test_enqueue : after (exec (.qEnqueue .rx 0x7F 1 [0x44]) { polled with rxq := ⟨[], 1, 3⟩ })
    (fun t => (t.rxq.tail, t.rxq.mem)) = some (0, [(99, 0), (100, 1), (101, 0x44)]) := by decide
theorem test_enqueue_full : after (exec (.qEnqueue .rx 0 1 [0x44]) { polled with rxq := fullQueue })
    (fun t => (t.primOk, t.rxq)) = some (false, fullQueue) := by decide
theorem test_dequeue : after (exec (.qDequeue .tx (some .out)) { polled with txq := lastEntry })
    (fun t => (t.txq.head, t.primOut)) = some (0, ⟨0, 2, [(0, 0xAA), (1, 0xBB)]⟩) := by decide
theorem test_dequeue_empty : after (exec (.qDequeue .tx none) polled) (·.primOk) = some false := by decide
theorem test_peek : after (exec (.qPeek .tx .rxb) { polled with txq := oneEntry })
    (fun t => (t.txq, t.rxb.length)) = some (oneEntry, 2) := by decide
theorem test_q_flush : after (exec .qFlush { polled with txq := oneEntry, rxq := fullQueue })
    (fun t => (qIsEmpty t.txq, qIsEmpty t.rxq, Memory.read t.rxq.mem 67)) = some (true, true, some 0) := by decide

/-! ### Transaction engine: TV, TF and TR -/

/-- TV1 to TV17, as (Lh, LD, MB). -/
theorem test_max_bytes :
    [(5, 0, 4), (0, 10, 10), (3, 8, 8), (2, 1, 1), (0, 0, 0), (1, 0, 0), (1, 5, 5), (2, 0, 1), (4, 4, 4), (10, 3, 9),
      (31, 0, 30), (31, 31, 31), (0, 31, 31), (0, 32, 31), (0, 40, 31), (0, 255, 31), (31, 255, 31)].all
      (fun (lh, ld, mb) => maxBytes Config.reference lh ld == mb) = true := by decide
theorem test_s_start : after (exec .sStart (inService .sStart)) (fun t => (t.reqn, t.svcSt)) =
    some (false, .sFetch) := by decide
theorem test_s_fetch : after (exec .sFetch { inService .sFetch with txq := oneEntry })
    (fun t => (t.txb, t.txq.head)) = some (⟨0, 2, [(0, 0xAA), (1, 0xBB)]⟩, 1) := by decide
theorem test_s_hdr0 : after
    (exec .sHdr0 { inService .sHdr0 with txb := ⟨0, 2, [(0, 0xAA), (1, 0xBB)]⟩, devAnswers := [0x7E, 0x01] })
    (fun t => (t.wire, t.devAnswers, t.svcSt)) = some ([⟨0x02, 0x7E⟩], [0x01], .sHdr1) := by decide
/-- TV15 and TR4: LD = 40 is clamped. -/
theorem test_s_hdr1 : after (exec .sHdr1 { inService .sHdr1 with txb := Packet.null, devAnswers := [40] })
    (fun t => (t.wire, t.ld, t.mb, t.rxb.length, t.svcSt)) = some ([⟨0, 40⟩], 40, 31, 31, .sBody) := by decide
/-- TV6: the only byte rides at position 1. -/
theorem test_s_hdr1_short : after (exec .sHdr1 { inService .sHdr1 with txb := ⟨0, 1, [(0, 0x42)]⟩, devAnswers := [0] })
    (fun t => (t.wire, t.mb, t.svcSt)) = some ([⟨0x42, 0⟩], 0, .sEnd) := by decide
/-- The last position of TR2: filler is sent past the outgoing frame. -/
theorem test_s_body : after
    (exec .sBody { inService .sBody with
      txb := ⟨0, 3, [(0, 0x11), (1, 0x22), (2, 0x33)]⟩, mb := 3, k := 2, devAnswers := [0xEE] })
    (fun t => (t.wire, t.rxb.payload, t.k, t.svcSt)) = some ([⟨0, 0xEE⟩], [(2, 0xEE)], 3, .sEnd) := by decide
theorem test_s_end : after (exec .sEnd { inService .sEnd with reqn := false }) (fun t => (t.reqn, t.svcSt)) =
    some (true, .sRearm) := by decide
theorem test_s_rearm : after (exec .sRearm { inService .sRearm with txq := oneEntry }) (·.reqn) = some false := by decide
theorem test_s_rearm_empty : after (exec .sRearm (inService .sRearm)) (·.reqn) = some true := by decide

/-! ### Bridge and flow controller: BV and FV -/

/-- BV5: masked, the start is not enabled. -/
theorem test_svc_start_masked : after (exec .svcStart { edge with rdyPend := true, rdyMask := true })
    (fun t => (t.svcSt, t.rdyPend)) = some (.sIdle, true) := by decide
theorem test_svc_start : after (exec .svcStart { edge with rdyPend := true }) (·.svcSt) = some .sEntry := by decide
theorem test_s_entry : after (exec .sEntry { edge with rdyPend := true, svcSt := .sEntry })
    (fun t => (t.attached, t.rdyPend, t.svcSt)) = some (false, false, .sStart) := by decide
/-- BV9. -/
theorem test_s_post : after
    (exec .sPost { inService .sPost with rxb := ⟨0, 1, [(0, 0x10)]⟩, rxq := nearlyFull })
    (fun t => (t.rxq.tail, t.rdyMask)) = some (3, true) := by decide
/-- EV1. -/
theorem test_s_post_overflow : after
    (exec .sPost { inService .sPost with rxb := ⟨0, 1, [(0, 0x99)]⟩, rxq := fullQueue })
    (fun t => (t.fatal, t.fatalCause, t.svcSt)) = some (true, 1, .sFatal) := by decide
theorem test_s_exit : after (exec .sExit (inService .sExit)) (fun t => (t.attached, t.svcSt)) =
    some (true, .sIdle) := by decide
/-- R241: before INIT no service starts. -/
theorem test_poll_check_before_init : after (exec .pollCheck { State.reset with rdyn := false }) (·.svcSt) =
    some .sIdle := by decide
/-- BV15. -/
theorem test_poll_check : after (exec .pollCheck { polled with rdyn := false }) (·.svcSt) = some .sStart := by decide
/-- BV1. -/
theorem test_dev_rdyn : after (exec (.devRdyn false) edge) (fun t => (t.rdyn, t.rdyPend)) =
    some (false, true) := by decide
/-- BV4. -/
theorem test_dev_rdyn_before_init : after (exec (.devRdyn false) State.reset) (·.rdyPend) = some false := by decide
theorem test_mask_check : after (exec .maskCheck { edge with rxq := fullQueue }) (·.rdyMask) = some true := by decide
theorem test_unmask_check : after (exec (.unmaskCheck true true) { edge with rdyMask := true }) (·.rdyMask) =
    some false := by decide

/-! ### Host commands: HV -/

/-- HV28 and FV10. -/
theorem test_init : after (exec (.init .edge) { polled with txq := nearlyFull, reqn := false })
    (fun t => (t.mode, t.attached, t.reqn, qIsEmpty t.txq)) = some (.edge, true, true, true) := by decide
/-- Each INIT forwards the next descriptor. -/
theorem test_init_descriptor : after (exec (.init .polled) { edge with pincfg := [[1], [2]] })
    (fun t => (t.pincfg, t.pincfgOut)) = some ([[2]], [[1]]) := by decide
/-- HV15: s1 of SEND 0. -/
theorem test_send_null : after (exec (.send []) polled) (fun t => (t.txq.tail, t.txq.mem, t.responses)) =
    some (1, [(0, 0), (1, 0)], []) := by decide
/-- HV17. -/
theorem test_send_long : after (exec (.send (List.replicate 32 0)) polled) (·.responses) = some [⟨0, []⟩] := by decide
/-- HV19: the image starts with 00 01 01. -/
theorem test_peek_event : after (exec .peekEvent { edge with rxq := ⟨[(0, 0), (1, 1), (2, 1)], 0, 1⟩ })
    (fun t => (t.responses.map (fun r => (r.word, r.data.take 3, r.data.length)), t.rxq.head)) =
      some ([(1, [0, 1, 1], 33)], 0) := by decide
/-- R218, R44: HCMD is at the poll that starts the inline service, and its next micro-step is p2. -/
theorem test_peek_event_polls : after (exec .peekEvent { polled with rdyn := false })
    (fun t => (t.svcSt, t.hcmd, t.hcmd.map HostCommand.step)) =
      some (.sStart, some ⟨.peekEvent, 0, false⟩, some 1) := by decide
/-- FV3. -/
theorem test_get_event : after (exec .getEvent { edge with rxq := fullQueue, rdyMask := true })
    (fun t => (t.rxq.head, t.rdyMask, t.responses.map (fun r => r.data.take 3))) =
      some (1, false, [[0, 1, 0xA0]]) := by decide
/-- HV22. -/
theorem test_get_event_empty : after (exec .getEvent edge) (·.responses) = some [⟨0, []⟩] := by decide
/-- HV25. -/
theorem test_txq_empty : after (exec .txqEmpty { polled with txq := fullQueue }) (·.responses) = some [⟨0, []⟩] := by decide
theorem test_txq_full : after (exec .txqFull { polled with txq := fullQueue }) (·.responses) = some [⟨1, []⟩] := by decide
/-- HV26. -/
theorem test_rxq_empty : after (exec .rxqEmpty { polled with rdyn := false }) (fun t => (t.responses, t.svcSt)) =
    some ([⟨1, []⟩], .sIdle) := by decide
theorem test_rxq_full : after (exec .rxqFull { polled with rxq := fullQueue }) (·.responses) = some [⟨1, []⟩] := by decide
/-- FV6 and FV9. -/
theorem test_flush : after (exec .flush { edge with rxq := fullQueue, rdyMask := true, reqn := false })
    (fun t => (qIsEmpty t.rxq, t.rdyMask, t.reqn)) = some (true, true, false) := by decide
/-- HV6. -/
theorem test_debug_set : after (exec (.debugSet true) State.reset) (fun t => (t.debugEn, t.responses)) =
    some (true, [⟨1, []⟩]) := by decide
/-- HV7: refused before the INIT_DONE check. -/
theorem test_illegal : after (exec (.illegal 0x00 []) State.reset) (·.responses) = some [⟨2, []⟩] := by decide
/-- EV3. -/
theorem test_rst : after (exec .rst { inService .sFatal with fatal := true, fatalCause := 1, reqn := false })
    (fun t => (t.fatal, t.fatalCause, t.initDone, t.reqn, t.svcSt)) = some (false, 0, false, true, .sIdle) := by decide
theorem test_fatal : after (exec (.fatal 1) edge) (fun t => (t.fatal, t.fatalCause, t.svcSt, t.attached)) =
    some (true, 1, .sFatal, true) := by decide

/-! ### Witnesses: a state and operands that meet the hypotheses of each obligation. `witness_X` is for `Obligations.X`. -/

/-- 31 payload bytes, the most that MAX_LEN admits. -/
def longest : List Byte := List.replicate 31 0x5A

theorem wf_reference : Config.reference.Wf := by decide

theorem queue_wf_empty {i : Nat} (hi : i < 4) : Queue.Wf Config.reference ⟨[], i, i⟩ := by
  refine ⟨hi, hi, rfl, fun n hn => ?_⟩
  simp [Queue.count, Config.reference] at hn

theorem holds_oneEntry : oneEntry.Holds Config.reference 0 :=
  ⟨by decide, 2, by decide, by decide, by decide⟩

theorem holds_lastEntry : lastEntry.Holds Config.reference 3 :=
  ⟨by decide, 2, by decide, by decide, by decide⟩

theorem holds_fullQueue : fullQueue.Holds Config.reference 0 :=
  ⟨by decide, 1, by decide, by decide, by decide⟩

theorem queue_wf_lastEntry : lastEntry.Wf Config.reference := by
  refine ⟨by decide, by decide, by decide, fun n hn => ?_⟩
  have h0 : n = 0 := by simpa [Queue.count, Config.reference, lastEntry] using hn
  subst h0
  exact holds_lastEntry

theorem queue_wf_fullQueue : fullQueue.Wf Config.reference := by
  refine ⟨by decide, by decide, by decide, fun n hn => ?_⟩
  have hc : Queue.count Config.reference fullQueue = 3 := by decide
  rw [hc] at hn
  match n, hn with
  | 0, _ => exact ⟨by decide, 1, by decide, by decide, by decide⟩
  | 1, _ => exact ⟨by decide, 1, by decide, by decide, by decide⟩
  | 2, _ => exact ⟨by decide, 1, by decide, by decide, by decide⟩

/-- The state right after INIT EDGE has the invariant. -/
theorem edge_inv : edge.Inv where
  parameters := by decide
  outgoing := queue_wf_empty (by decide)
  incoming := queue_wf_empty (by decide)
  stores := by decide
  notFatal := by decide
  beforeInit := by decide
  fullIsMasked := by decide
  edgeAttached := by decide
  polledQuiet := by decide
  room := by decide
  maskedAtExit := by decide
  inlineService := by intro _ h; cases h
  command := by intro h hh; cases hh
  outPacket := by intro h; cases h
  inPacket := by intro h; rcases h with h | h <;> cases h
  bodyCount := by intro h; cases h
  bodyDone := by intro h; cases h
  requestLine := by decide

/-- FV6: EDGE mode, the mask set, RXQ empty. -/
def stalled : State := { edge with rdyMask := true }

theorem stalled_inv : stalled.Inv where
  parameters := by decide
  outgoing := queue_wf_empty (by decide)
  incoming := queue_wf_empty (by decide)
  stores := by decide
  notFatal := by decide
  beforeInit := by decide
  fullIsMasked := by decide
  edgeAttached := by decide
  polledQuiet := by decide
  room := by decide
  maskedAtExit := by decide
  inlineService := by intro _ h; cases h
  command := by intro h hh; cases hh
  outPacket := by intro h; cases h
  inPacket := by intro h; rcases h with h | h <;> cases h
  bodyCount := by intro h; cases h
  bodyDone := by intro h; cases h
  requestLine := by decide

theorem witness_DecodeEncodeAgree :
    (Instr.send [0xAA]).wf = true ∧ encode (.send [0xAA]) = some [0x02, 0x01, 0xAA] ∧
    (Instr.illegal 0xF1 [0xFF]).wf = true ∧ encode (.illegal 0xF1 [0xFF]) = some [0xF1, 0xFF] := by decide

theorem witness_DecodeTakesExactlyTheEncoding : decode [0x02, 0x01, 0xAA, 0x03] = .ok (.send [0xAA], [0x03]) := by decide

theorem witness_ReservedWordsAreRefused :
    decode [0x00] = .ok (.illegal 0x00 [], []) ∧ decode [0x0A, 0x02] = .ok (.illegal 0x0A [0x02], []) ∧
    decode [0x0A, 0x01] = .ok (.debugSet true, []) ∧ decode [0x10] = .ok (.illegal 0x10 [], []) ∧
    State.reset.Accepts := by decide

theorem witness_CommandLengthByOpcode :
    (0x0A : Byte).toNat % 16 = 10 ∧ (0xF1 : Byte).toNat % 16 = 1 ∧ (0x02 : Byte).toNat % 16 = 2 ∧
    (0x03 : Byte).toNat % 16 = 3 ∧
    decode [0x02, 0x01] = .error .truncated ∧ decode [0x02, 0x01, 0xAA] = .ok (.send [0xAA], []) := by decide

theorem witness_StepRunsDecodedCommand :
    State.Accepts { edge with turns := [.host], cmdPort := [0x09, 0x03] } ∧
    decode [0x09, 0x03] = .ok (.flush, [0x03]) := by decide

/-- SEND between its micro-steps. -/
def sending : State := { edge with turns := [.host], hcmd := some ⟨.send [0xAA], 0, true⟩ }

theorem witness_StepContinuesCommand :
    sending.turns = [.host] ∧ sending.fatal = false ∧ sending.svcSt = .sIdle ∧
    sending.hcmd = some ⟨.send [0xAA], 0, true⟩ := by decide

theorem witness_StepRunsServiceDeviceReset :
    ({ edge with turns := [.svc] } : State).turns = [.svc] ∧ edge.fatal = false ∧
    svcInstr edge.svcSt = some .svcStart ∧ ({ edge with turns := [.dev false] } : State).turns = [.dev false] ∧
    ({ edge with turns := [.rst] } : State).turns = [.rst] := by decide

theorem witness_StepPassesDisabledTurn :
    (∃ s : State, s.turns = [.host] ∧ s.fatal = true) ∧ (∃ s : State, s.turns = [.host] ∧ s.svcSt ≠ .sIdle) ∧
    (∃ s : State, s.turns = [.host] ∧ s.hcmd = none ∧ decode s.cmdPort = .error .truncated) ∧
    ∃ s : State, s.turns = [.svc] ∧ s.fatal = true :=
  ⟨⟨{ edge with turns := [.host], fatal := true }, by decide⟩,
    ⟨{ inService .sBody with turns := [.host] }, by decide⟩,
    ⟨{ edge with turns := [.host], cmdPort := [0x01] }, by decide⟩,
    ⟨{ edge with turns := [.svc], fatal := true }, by decide⟩⟩

theorem witness_StepTakesFreeTurn : State.reset.turns = [] := rfl

theorem witness_OccupancyPredicates :
    Config.Wf State.reset.cfg ∧ Queue.Wf State.reset.cfg (State.reset.queue .tx) ∧
    Queue.Wf Config.reference fullQueue :=
  ⟨by decide, queue_wf_empty (by decide), queue_wf_fullQueue⟩

theorem witness_QInitZeroesEveryLength : Memory.wf (({ edge with rxq := fullQueue } : State).queue .rx).mem = true := by
  decide

theorem witness_QFlushEmptiesBothQueues :
    Memory.wf ({ edge with txq := oneEntry } : State).txq.mem = true ∧ Memory.wf edge.rxq.mem = true := by decide

/-- A payload of MAX_LEN bytes, into the last slot. -/
theorem witness_QEnqueueStoresPacket :
    longest.length = (31 : Byte).toNat ∧ (31 : Byte).toNat ≤ edge.cfg.maxLen ∧
    qIsFull edge.cfg (({ edge with rxq := ⟨[], 3, 3⟩ } : State).queue .rx) = false ∧
    (({ edge with rxq := ⟨[], 3, 3⟩ } : State).queue .rx).tail < edge.cfg.qdepth := by decide

theorem witness_QEnqueueFailures :
    (31 : Byte).toNat ≤ edge.cfg.maxLen ∧ qIsFull edge.cfg fullQueue = true ∧
    edge.cfg.maxLen < (32 : Byte).toNat := by decide

theorem witness_QDequeueTakesHead :
    (edge.queue .tx).head = (edge.queue .tx).tail ∧
    ∃ s : State, (s.queue .tx).head ≠ (s.queue .tx).tail ∧ (s.queue .tx).head < s.cfg.qdepth ∧
      (s.queue .tx).Holds s.cfg (s.queue .tx).head :=
  ⟨rfl, { edge with txq := lastEntry }, by decide, by decide, holds_lastEntry⟩

theorem witness_QPeekReadsHead :
    (edge.queue .rx).head = (edge.queue .rx).tail ∧
    ∃ s : State, (s.queue .rx).head ≠ (s.queue .rx).tail ∧ (s.queue .rx).head < s.cfg.qdepth ∧
      (s.queue .rx).Holds s.cfg (s.queue .rx).head :=
  ⟨rfl, { edge with rxq := oneEntry }, by decide, by decide, holds_oneEntry⟩

theorem witness_QueueCountLaw :
    ∃ s : State, s.cfg.Wf ∧ (s.queue .rx).Wf s.cfg ∧ (∃ t, exec (.qEnqueue .rx 0 0 []) s = .next t) ∧
      (∃ t, exec (.qDequeue .rx none) s = .next t) ∧ (∃ t, exec (.qPeek .rx .out) s = .next t) ∧
      ∃ t, exec (.qInit .rx) s = .next t :=
  ⟨{ edge with rxq := fullQueue }, by decide, queue_wf_fullQueue, ⟨_, rfl⟩, ⟨_, rfl⟩, ⟨_, rfl⟩, ⟨_, rfl⟩⟩

theorem witness_QueueRefinesList :
    ∃ s t u : State, s.cfg.Wf ∧ (s.queue .rx).Wf s.cfg ∧ [(0x44 : Byte)].length = (1 : Byte).toNat ∧
      exec (.qEnqueue .rx 0 1 [0x44]) s = .next t ∧ t.primOk = true ∧
      exec (.qDequeue .rx none) s = .next u ∧ u.primOk = true :=
  ⟨{ edge with rxq := lastEntry }, _, _, by decide, queue_wf_lastEntry, rfl, rfl, rfl, rfl, rfl⟩

theorem witness_QueueRoundTripFifo :
    ∃ (s : State) (ps : List (Byte × List Byte)), s.cfg.Wf ∧ (s.queue .tx).Wf s.cfg ∧
      (s.queue .tx).head = (s.queue .tx).tail ∧ ps.length < s.cfg.qdepth ∧
      (∀ p ∈ ps, p.2.length ≤ s.cfg.maxLen) ∧ ps[2]? = some (0x55, longest) :=
  ⟨{ edge with txq := ⟨[], 3, 3⟩ }, [(0, []), (0, [0x01]), (0x55, longest)], by decide, queue_wf_empty (by decide),
    rfl, by decide, by decide, rfl⟩

theorem witness_TransactionLineSteps :
    edge.fatal = false ∧ (inService .sStart).svcSt = .sStart ∧ (inService .sEnd).svcSt = .sEnd ∧
    (inService .sRearm).txq.head = (inService .sRearm).txq.tail ∧
    ({ inService .sRearm with txq := oneEntry } : State).txq.head ≠
      ({ inService .sRearm with txq := oneEntry } : State).txq.tail := by decide

theorem witness_FetchTakesOutgoingPacket :
    ((inService .sFetch).fatal = false ∧ (inService .sFetch).txq.head = (inService .sFetch).txq.tail) ∧
    ∃ s : State, s.fatal = false ∧ s.svcSt = .sFetch ∧ s.txq.head ≠ s.txq.tail ∧ s.txq.head < s.cfg.qdepth ∧
      s.txq.Holds s.cfg s.txq.head :=
  ⟨by decide, { inService .sFetch with txq := lastEntry }, by decide, by decide, by decide, by decide, holds_lastEntry⟩

/-- The outgoing packet {0, 3, [0x11, 0x22, 0x33]} of TF1. -/
def outgoing : Packet := ⟨0, 3, [(0, 0x11), (1, 0x22), (2, 0x33)]⟩

theorem outgoing_defined : outgoing.Defined Config.reference := ⟨by decide, by decide⟩

theorem null_defined : Packet.null.Defined Config.reference := ⟨by decide, by decide⟩

theorem witness_HeaderExchanges :
    ∃ s u : State, (s.fatal = false ∧ s.cfg.Wf ∧ s.txb.Defined s.cfg ∧ s.svcSt = .sHdr0) ∧
      (u.fatal = false ∧ u.cfg.Wf ∧ u.txb.Defined u.cfg ∧ u.svcSt = .sHdr1 ∧ u.devAnswers = [40]) :=
  ⟨{ inService .sHdr0 with txb := outgoing }, { inService .sHdr1 with devAnswers := [40] },
    ⟨rfl, by decide, outgoing_defined, rfl⟩, ⟨rfl, by decide, null_defined, rfl, rfl⟩⟩

/-- The last body exchange of a transaction of MAX_LEN body bytes. -/
theorem witness_BodyExchangeStoresByte :
    ∃ s : State, s.fatal = false ∧ s.svcSt = .sBody ∧ s.txb.Defined s.cfg ∧ s.k.toNat < s.mb.toNat ∧
      s.mb.toNat ≤ s.cfg.maxLen :=
  ⟨{ inService .sBody with txb := outgoing, k := 30, mb := 31 }, rfl, rfl, outgoing_defined, by decide, by decide⟩

theorem witness_MaxBytesRule : (31 : Nat) ≤ Config.reference.maxLen ∧ (31 : Nat) ≠ 0 := by decide

theorem witness_ServiceStepOutOfPlaceFaults :
    svcInstr .sHdr0 = some .sHdr0 ∧ (inService .sHdr1).svcSt ≠ .sHdr0 ∧
    ({ inService .sHdr0 with fatal := true } : State).fatal = true ∧
    (inService .sBody).mb.toNat ≤ (inService .sBody).k.toNat ∧
    ({ polled with svcSt := .sEntry } : State).svcSt = .sEntry ∧ polled.mode = .polled := by decide

/-- One state for each clause: tail, head and HCMD.step just out of range. -/
theorem witness_OutOfRangeStateFaults :
    (qIsFull edge.cfg ⟨[], 0, 4⟩ = false ∧ edge.cfg.qdepth ≤ (⟨[], 0, 4⟩ : Queue).tail ∧
      (31 : Byte).toNat ≤ edge.cfg.maxLen) ∧
    ((⟨[], 4, 0⟩ : Queue).head ≠ (⟨[], 4, 0⟩ : Queue).tail ∧ edge.cfg.qdepth ≤ (⟨[], 4, 0⟩ : Queue).head) ∧
    (∃ s : State, s.fatal = false ∧ s.svcSt = .sFetch ∧ s.txq.head ≠ s.txq.tail ∧ s.cfg.qdepth ≤ s.txq.head) ∧
    (∃ s : State, s.fatal = false ∧ s.svcSt = .sPost ∧ s.cfg.maxLen < s.rxb.length.toNat) ∧
    ∃ s : State, (encode .flush).isSome = true ∧ s.fatal = false ∧ s.svcSt = .sIdle ∧
      s.hcmd = some ⟨.flush, 0 + 1, false⟩ :=
  ⟨by decide, by decide, ⟨{ inService .sFetch with txq := ⟨[], 4, 0⟩ }, by decide⟩,
    ⟨{ inService .sPost with rxb := ⟨0, 32, []⟩ }, by decide⟩, ⟨{ edge with hcmd := some ⟨.flush, 1, false⟩ }, by decide⟩⟩

/-- The third transaction of X5: Lh = 3, LD = 8. -/
theorem witness_TransactionExchangesFrames :
    ∃ s : State, s.cfg.Wf ∧ s.fatal = false ∧ s.svcSt = .sHdr0 ∧ s.txb.Defined s.cfg ∧
      8 = maxBytes s.cfg s.txb.length.toNat (8 : Byte).toNat ∧ (List.replicate 8 (0x80 : Byte)).length = 8 ∧
      s.devAnswers = 0x00 :: 0x08 :: (List.replicate 8 0x80 ++ []) ∧ s.turns = List.replicate (2 + 8) .svc ++ [] :=
  ⟨{ inService .sHdr0 with
      txb := outgoing, devAnswers := 0x00 :: 0x08 :: List.replicate 8 0x80, turns := List.replicate 10 .svc },
    by decide, rfl, rfl, outgoing_defined, by decide, rfl, rfl, rfl⟩

theorem witness_ServiceStartCondition :
    startEnabled { edge with rdyPend := true } = true ∧
    startEnabled { edge with rdyPend := true, rdyMask := true } = false := by decide

theorem witness_ServiceEntryAndReturn :
    edge.fatal = false ∧ (inService .sEntry).svcSt = .sEntry ∧ (inService .sEntry).mode = .edge ∧
    (inService .sExit).svcSt = .sExit ∧ (inService .sExit).mode = .edge ∧
    ({ polled with svcSt := .sExit } : State).svcSt = .sExit ∧ polled.mode = .polled := by decide

theorem witness_PostQueuesResult :
    (∃ s : State, s.fatal = false ∧ s.svcSt = .sPost ∧ s.rxb.length = 0) ∧
    ∃ s : State, s.fatal = false ∧ s.svcSt = .sPost ∧ s.rxb.length ≠ 0 ∧ s.rxb.Defined s.cfg ∧
      qIsFull s.cfg s.rxq = false ∧ s.rxq.tail < s.cfg.qdepth :=
  ⟨⟨inService .sPost, by decide⟩,
    { inService .sPost with rxb := outgoing, rxq := nearlyFull }, rfl, rfl, by decide, outgoing_defined,
    by decide, by decide⟩

theorem witness_RaisingFatalSetsFatalState :
    ∃ s : State, s.fatal = false ∧ s.svcSt = .sPost ∧ s.rxb.length ≠ 0 ∧ s.rxb.length.toNat ≤ s.cfg.maxLen ∧
      qIsFull s.cfg s.rxq = true :=
  ⟨{ inService .sPost with rxb := outgoing, rxq := fullQueue }, by decide⟩

theorem witness_FatalIsAbsorbing :
    ∃ s t : State, s.fatal = true ∧ step s = .next t :=
  ⟨{ edge with fatal := true, turns := [.dev false] }, _, rfl, rfl⟩

/-- The rule's case, and each case in which nothing happens: R241's, EDGE mode, and HOST not free. -/
theorem witness_PollCheckRule :
    (polled.initDone = true ∧ polled.mode = .polled ∧ polled.Accepts) ∧
    State.reset.initDone = false ∧ edge.mode = .edge ∧ ¬sending.Accepts ∧ ¬(inService .sBody).Accepts := by decide

theorem witness_ReadyLineEdgeLatch :
    (edge.rdyn = true ∧ edge.initDone = true ∧ edge.fatal = false ∧ edge.mode = .edge) ∧
    polled.mode ≠ .edge := by decide

theorem witness_MaskAndUnmask :
    edge.mode = .edge ∧ qIsFull edge.cfg fullQueue = true ∧ polled.mode = .polled ∧
    qIsFull edge.cfg edge.rxq = false := by decide

theorem witness_InitEstablishesLink : State.reset.Accepts ∧ edge.Accepts := by decide

/-- A payload of MAX_LEN bytes. -/
theorem witness_SendQueuesPacket :
    edge.cfg.Wf ∧ edge.Accepts ∧ edge.initDone = true ∧ longest.length ≤ edge.cfg.maxLen ∧
    qIsFull edge.cfg edge.txq = false ∧ edge.txq.tail < edge.cfg.qdepth := by decide

theorem witness_SendAssertsRequest :
    sending.fatal = false ∧ sending.svcSt = .sIdle ∧ sending.hcmd = some ⟨.send [0xAA], 0, true⟩ := by decide

theorem witness_SendRejects :
    edge.cfg.Wf ∧ edge.Accepts ∧ edge.initDone = true ∧ edge.cfg.maxLen < (List.replicate 32 (0 : Byte)).length ∧
    State.Accepts { edge with txq := fullQueue } ∧
    qIsFull edge.cfg ({ edge with txq := fullQueue } : State).txq = true := by decide

/-- The poll that finds RDYN 1, and the one that starts a service. -/
theorem witness_PollingCommandsPollFirst :
    polled.Accepts ∧ polled.initDone = true ∧ polled.mode = .polled ∧
    State.Accepts { polled with rdyn := false } := by decide

theorem witness_PeekEventReturnsHead :
    (edge.AtEffect .peekEvent ∧ edge.rxq.head = edge.rxq.tail) ∧
    ∃ s : State, s.AtEffect .peekEvent ∧ s.mode = .polled ∧ s.rxq.head ≠ s.rxq.tail ∧ s.rxq.head < s.cfg.qdepth ∧
      s.rxq.Holds s.cfg s.rxq.head :=
  ⟨by decide, { polled with rxq := oneEntry, hcmd := some ⟨.peekEvent, 0, false⟩ }, by decide, rfl, by decide,
    by decide, holds_oneEntry⟩

theorem witness_GetEventRemovesHead :
    (edge.AtEffect .getEvent ∧ edge.rxq.head = edge.rxq.tail) ∧
    State.AtEffect { polled with hcmd := some ⟨.getEvent, 0, false⟩ } .getEvent ∧
    ∃ s : State, s.AtEffect .getEvent ∧ s.rxq.head ≠ s.rxq.tail ∧ s.rxq.head < s.cfg.qdepth ∧
      s.rxq.Holds s.cfg s.rxq.head ∧ qIsFull s.cfg s.rxq = true :=
  ⟨by decide, by decide, { edge with rxq := fullQueue, rdyMask := true }, by decide, by decide, by decide, holds_fullQueue,
    by decide⟩

theorem witness_PredicateCommandsAnswer : edge.Accepts ∧ edge.initDone = true := by decide

theorem witness_FlushAndDebugSet : edge.Accepts ∧ edge.initDone = true ∧ State.reset.Accepts := by decide

theorem witness_NotInitRefusal :
    (encode (.send [0x42])).isSome = true ∧ State.reset.Accepts ∧ State.reset.initDone = false ∧
    (∀ m, Instr.send [0x42] ≠ .init m) ∧ (∀ e, Instr.send [0x42] ≠ .debugSet e) ∧
    ∀ c ops, Instr.send [0x42] ≠ .illegal c ops :=
  ⟨rfl, by decide, rfl, by simp, by simp, by simp⟩

theorem witness_HostCommandWaits :
    (encode .flush).isSome = true ∧ ({ edge with fatal := true } : State).fatal = true ∧
    (inService .sBody).svcSt ≠ .sIdle ∧ sending.hcmd = some ⟨.send [0xAA], 0, true⟩ ∧
    Instr.send [0xAA] ≠ .flush := by decide

/-- Each bit of `StatusWriters` does change in some step. -/
theorem witness_StatusWriters :
    after (exec (.init .edge) polled) (·.mode) = some .edge ∧
    after (exec (.init .edge) State.reset) (·.initDone) = some true ∧
    after (exec (.debugSet true) edge) (·.debugEn) = some true ∧
    after (exec .sExit (inService .sExit)) (·.attached) = some true ∧
    after (exec (.devRdyn false) edge) (fun t => (t.rdyPend, t.rdyn)) = some (true, false) ∧
    after (exec (.fatal 1) edge) (·.fatal) = some true ∧
    after (exec .rst { edge with fatal := true }) (·.fatal) = some false := by decide

theorem witness_RequestLineMap :
    ∃ t : State, exec (.send [0xAA]) sending = .next t ∧ t.reqn ≠ sending.reqn := ⟨_, rfl, by decide⟩

theorem witness_MaskWriters :
    (∃ t : State, exec .maskCheck { edge with rxq := fullQueue } = .next t ∧ t.rdyMask ≠ edge.rdyMask) ∧
    ∃ t : State, exec (.unmaskCheck true true) stalled = .next t ∧ t.rdyMask ≠ stalled.rdyMask :=
  ⟨⟨_, rfl, by decide⟩, ⟨_, rfl, by decide⟩⟩

theorem witness_QueueWriters :
    (∃ t : State, exec (.qEnqueue .tx 0 0 []) edge = .next t ∧ t.txq ≠ edge.txq) ∧
    (∃ t : State, exec (.qEnqueue .rx 0 0 []) edge = .next t ∧ t.rxq ≠ edge.rxq) ∧
    (∃ t : State, exec (.qPeek .tx .txb) { edge with txq := oneEntry } = .next t ∧ t.txb ≠ edge.txb) ∧
    ∃ t : State, exec (.qPeek .tx .rxb) { edge with txq := oneEntry } = .next t ∧ t.rxb ≠ edge.rxb :=
  ⟨⟨_, rfl, by decide⟩, ⟨_, rfl, by decide⟩, ⟨_, rfl, by decide⟩, ⟨_, rfl, by decide⟩⟩

theorem witness_DebugHasNoOtherEffect : ∀ e, Instr.send [0x42] ≠ .debugSet e := by simp

theorem witness_CanonicalStoresKept :
    ∃ s t : State, s.Canonical ∧ step s = .next t :=
  ⟨{ edge with turns := [.host], cmdPort := [0x02, 0x01, 0x42] }, _, by decide, rfl⟩

theorem witness_StepKeepsInvariant : ∃ s t : State, s.Inv ∧ step s = .next t :=
  ⟨{ edge with turns := [.svc] }, _, { edge_inv with }, rfl⟩

theorem witness_FatalIsUnreachable : ∃ s : State, s.Inv := ⟨edge, edge_inv⟩

/-- The receive stall, and the FLUSH that enters it from a full RXQ. -/
theorem witness_ReceiveStallEvents :
    (∃ s t : State, s.Inv ∧ step s = .next t ∧ s.Stalled ∧ t.Stalled) ∧
    after (exec .flush { edge with rxq := fullQueue, rdyMask := true })
      (fun t => (t.rdyMask, qIsFull t.cfg t.rxq)) = some (true, false) :=
  ⟨⟨{ stalled with turns := [.svc] }, _, { stalled_inv with }, rfl, ⟨rfl, rfl, rfl, rfl, by decide⟩,
    ⟨rfl, rfl, rfl, rfl, by decide⟩⟩, by decide⟩

end Sys2Proof.Tests
end

section
/-! PROOFS. The state after hardware reset (R48): the queue at reset, and the family `10_state.md`. -/

namespace Sys2Proof.Machine

/-! ### The queue at reset: both indices 0, and a storage in which no address holds a defined byte -/

@[simp] theorem Queue.atReset_head : Queue.atReset.head = 0 := rfl

@[simp] theorem Queue.atReset_tail : Queue.atReset.tail = 0 := rfl

@[simp] theorem Queue.read_atReset (a : Nat) : Memory.read Queue.atReset.mem a = none := Memory.read_nil a

@[simp] theorem State.reset_txq : State.reset.txq = Queue.atReset := rfl

@[simp] theorem State.reset_rxq : State.reset.rxq = Queue.atReset := rfl

/-- Settles O12: the scalar values are fields of `State.reset`; indices and slot bytes are those of `Queue.atReset`. -/
theorem resetValues : Obligations.ResetValues := by
  unfold Obligations.ResetValues
  rw [State.reset_txq, State.reset_rxq]
  exact ⟨Queue.atReset_head, Queue.atReset_tail, Queue.atReset_head, Queue.atReset_tail,
    rfl, rfl, rfl, rfl, rfl, rfl, rfl, rfl, rfl, rfl,
    fun a => ⟨Queue.read_atReset a, Queue.read_atReset a⟩⟩

end Sys2Proof.Machine
end

section
/-! PROOFS. Reserved encodings and their refusal (R90, R91): the bytes that the decoder takes, when it answers ILLEGAL, what
the refusal does, and the family `30_encoding.md`. -/

namespace Sys2Proof

variable {cmd : Byte} {operands rest : List Byte}

/-! ### Operand bytes -/

/-- R83: INIT and DEBUG_SET take one operand byte. -/
theorem operandsFit_one_byte_iff {op : Nat} (hop : op = 1 ∨ op = 10) :
    operandsFit op operands = true ↔ ∃ b, operands = [b] := by
  simp [operandsFit, hop, List.length_eq_one_iff]

/-- R82, R83: SEND takes a length byte and as many payload bytes as it says. -/
theorem operandsFit_send_iff :
    operandsFit 2 operands = true ↔ ∃ len payload, operands = len :: payload ∧ payload.length = len.toNat := by
  cases operands <;> simp [operandsFit]

/-- R83: every other opcode takes none. -/
theorem operandsFit_nil {op : Nat} (h1 : op ≠ 1) (h10 : op ≠ 10) (h2 : op ≠ 2) : operandsFit op [] = true := by
  simp [operandsFit, h1, h10, h2]

/-- R91: what is taken and what is left are the bytes that were there, and what is taken fits the opcode. -/
theorem takeOperands_eq_some {op : Nat} {bs : List Byte} (h : takeOperands op bs = some (operands, rest)) :
    bs = operands ++ rest ∧ operandsFit op operands = true := by
  unfold takeOperands at h
  split at h
  case h_1 | h_3 => -- INIT, DEBUG_SET
    cases h
    exact ⟨rfl, rfl⟩
  case h_5 len more => -- SEND
    split at h
    next hlen =>
      cases h
      exact ⟨by simp, operandsFit_send_iff.mpr ⟨len, _, rfl, List.length_take_of_le hlen⟩⟩
    next => cases h
  case h_2 | h_4 | h_6 => cases h -- bytes are missing
  case h_7 => -- every other opcode
    cases h
    exact ⟨rfl, by cases rest <;> exact operandsFit_nil (by simp_all) (by simp_all) (by simp_all)⟩

/-- R91: a decoded command is that of its command word and of operand bytes that fit, at the front of the stream. -/
theorem decode_cons_eq_ok {bs : List Byte} {i : Instr} (h : decode (cmd :: bs) = .ok (i, rest)) :
    ∃ operands, i = decodeCommand cmd operands ∧ bs = operands ++ rest ∧ operandsFit (opField cmd) operands = true := by
  rw [decode] at h
  split at h
  next => cases h
  next operands left htake =>
    cases h
    exact ⟨operands, rfl, takeOperands_eq_some htake⟩

/-- R83: an operand byte is refused where one of its bits 7:1 is set. -/
theorem operandBit_eq_none_iff {b : Byte} : operandBit b = none ↔ b.toNat / 2 ≠ 0 := by
  simp [operandBit]

/-! ### The refusal -/

/-- R90: the four grounds; of the bytes after the command word only the first decides, and only for INIT and DEBUG_SET. -/
theorem isIllegalEncoding_iff (hfit : operandsFit (opField cmd) operands = true) (rest : List Byte) :
    isIllegalEncoding cmd operands = true ↔
      opField cmd = 0 ∨ 11 ≤ opField cmd ∨ rsvField cmd ≠ 0 ∨
        ((opField cmd = 1 ∨ opField cmd = 10) ∧ ∃ b, (operands ++ rest).head? = some b ∧ b.toNat / 2 ≠ 0) := by
  have hrsv : 16 ≤ cmd.toNat ↔ rsvField cmd ≠ 0 := by unfold rsvField; omega
  have hbyte : opField cmd = 1 ∨ opField cmd = 10 →
      ((operands.any fun b => decide (2 ≤ b.toNat)) = true ↔
        ∃ b, (operands ++ rest).head? = some b ∧ b.toNat / 2 ≠ 0) := by
    intro hop
    obtain ⟨b, rfl⟩ := (operandsFit_one_byte_iff hop).mp hfit
    simp [Nat.lt_iff_add_one_le]
  simp only [isIllegalEncoding, Bool.or_eq_true, Bool.and_eq_true, decide_eq_true_eq, hrsv, or_assoc]
  exact or_congr_right (or_congr_right (or_congr_right (and_congr_right hbyte)))

/-- R84, R90: a command word with operand bytes that fit decodes to ILLEGAL exactly where it is a reserved encoding. -/
theorem decodeCommand_eq_illegal_iff (hfit : operandsFit (opField cmd) operands = true) {c : Byte} {ops : List Byte} :
    decodeCommand cmd operands = .illegal c ops ↔
      isIllegalEncoding cmd operands = true ∧ cmd = c ∧ operands = ops := by
  rw [isIllegalEncoding_iff hfit []]
  unfold decodeCommand
  split
  next hr => simp [hr]
  next hr =>
    split
    case h_1 cfg hop | h_10 cfg hop => -- INIT, DEBUG_SET
      have hbit := operandBit_eq_none_iff (b := cfg)
      cases h : operandBit cfg <;> simp_all
    case h_11 h3 h4 h5 h6 h7 h8 h9 h1 h2 h10 => -- no operation has this opcode
      have hop : ¬(opField cmd = 1 ∨ opField cmd = 10) := fun hop =>
        let ⟨b, hb⟩ := (operandsFit_one_byte_iff hop).mp hfit
        hop.elim (h1 b · hb) (h10 b · hb)
      have hop2 : opField cmd ≠ 2 := fun h =>
        let ⟨len, payload, hb, _⟩ := operandsFit_send_iff.mp (h ▸ hfit)
        h2 len payload h hb
      have hres : opField cmd = 0 ∨ 11 ≤ opField cmd := by
        simp only [imp_false] at h3 h4 h5 h6 h7 h8 h9
        omega
      simp [hres, ← or_assoc]
    case h_2 hop | h_3 hop | h_4 hop | h_5 hop | h_6 hop | h_7 hop | h_8 hop | h_9 hop =>
      simp [hop, hr]

end Sys2Proof

namespace Sys2Proof.Machine

/-- R90, R180: where HOST may issue a command, before INIT too, ILLEGAL answers 0x02 without data and does nothing else. -/
theorem exec_illegal {s : State} (hs : s.Accepts) (cmd : Byte) (operands : List Byte) :
    exec (.illegal cmd operands) s = .next { s with responses := s.responses ++ [⟨0x02, []⟩] } := by
  obtain ⟨hfatal, hsvc, hcmd⟩ := hs
  have hrun : exec (.illegal cmd operands) s = .next (respond .illegal false [] s) :=
    hostMicro_first hfatal hsvc hcmd nofun
  rw [hrun, respond, hcmd]
  rfl

/-- Settles O3: the four grounds are `isIllegalEncoding`, and the refusal is `exec_illegal`. -/
theorem reservedWordsAreRefused : Obligations.ReservedWordsAreRefused := by
  unfold Obligations.ReservedWordsAreRefused
  intro cmd bs rest i h
  obtain ⟨operands, rfl, rfl, hfit⟩ := decode_cons_eq_ok h
  simp only [decodeCommand_eq_illegal_iff hfit]
  constructor
  · simp only [true_and, exists_and_left, exists_eq', and_true]
    exact isIllegalEncoding_iff hfit rest
  · rintro c ops ⟨hill, rfl, rfl⟩
    refine ⟨rfl, rfl, hfit, fun s hs => ?_⟩
    rw [(decodeCommand_eq_illegal_iff hfit).mpr ⟨hill, rfl, rfl⟩]
    exact exec_illegal hs cmd operands

end Sys2Proof.Machine
end

section
/-! PROOFS. Emptying a queue (R102, R106): what Q_INIT and Q_FLUSH leave of a storage, why doing either twice is doing it
once, and the family `40_queue.md`. -/

namespace Sys2Proof.Machine

/-! ### The queue of a name -/

@[simp] theorem setQueue_cfg (s : State) (name : QueueName) (q : Queue) : (s.setQueue name q).cfg = s.cfg := by
  cases name <;> rfl

@[simp] theorem queue_setQueue_same (s : State) (name : QueueName) (q : Queue) :
    (s.setQueue name q).queue name = q := by
  cases name <;> rfl

/-- The later of two replacements of one queue stands. -/
@[simp] theorem setQueue_setQueue (s : State) (name : QueueName) (q q' : Queue) :
    (s.setQueue name q).setQueue name q' = s.setQueue name q' := by
  cases name <;> rfl

/-! ### Q_INIT on one queue -/

/-- R102: a canonical storage whose length bytes are 0 already stays the same data. -/
theorem zeroLengths_idem (c : Config) (n : Nat) {m : Memory} (hm : Memory.wf m = true) :
    zeroLengths c n (zeroLengths c n m) = zeroLengths c n m := by
  have hwf := wf_zeroLengths c n hm
  refine Memory.eq_of_read_eq (wf_zeroLengths c n hwf) hwf fun a => ?_
  by_cases ha : ∃ i < n, a = slotAddr c i 1
  · obtain ⟨i, hi, rfl⟩ := ha
    rw [read_zeroLengths_length c n _ hi, read_zeroLengths_length c n _ hi]
  · exact read_zeroLengths_other c n _ fun i hi heq => ha ⟨i, hi, heq⟩

/-- R102: Q_INIT clears the indices and every length byte, and changes no other byte. -/
theorem qInit_emptied (c : Config) (q : Queue) : q.Emptied c (qInit c q) :=
  ⟨qInit_head c q, qInit_tail c q, fun _ hi => read_zeroLengths_length c c.qdepth q.mem hi,
    fun _ ha => read_zeroLengths_other c c.qdepth q.mem ha⟩

theorem qInit_idem (c : Config) {q : Queue} (hq : Memory.wf q.mem = true) : qInit c (qInit c q) = qInit c q :=
  congrArg (Queue.mk · 0 0) (zeroLengths_idem c c.qdepth hq)

/-! ### The two operations -/

theorem exec_qInit (q : QueueName) (s : State) : exec (.qInit q) s = .next (s.setQueue q (qInit s.cfg (s.queue q))) :=
  rfl

theorem exec_qFlush (s : State) : exec .qFlush s = .next (qFlush s) := rfl

/-- R106: Q_FLUSH twice is Q_FLUSH once, as Q_INIT is on each queue. -/
theorem qFlush_idem {s : State} (htx : Memory.wf s.txq.mem = true) (hrx : Memory.wf s.rxq.mem = true) :
    qFlush (qFlush s) = qFlush s := by
  simp only [qFlush, qInit_idem s.cfg htx, qInit_idem s.cfg hrx]

/-- Settles O15: the queue named becomes its `qInit`, which `qInit_emptied` and `qInit_idem` describe. -/
theorem qInitZeroesEveryLength : Obligations.QInitZeroesEveryLength := by
  unfold Obligations.QInitZeroesEveryLength
  intro q s
  refine ⟨_, exec_qInit q s, ?_, ?_, fun hwf => ?_⟩
  · rw [queue_setQueue_same]
    exact qInit_emptied s.cfg (s.queue q)
  · rw [queue_setQueue_same]
  · rw [exec_qInit, setQueue_cfg, queue_setQueue_same, setQueue_setQueue, qInit_idem s.cfg hwf]

/-- Settles O16: each queue becomes its `qInit`, and no other field is written. -/
theorem qFlushEmptiesBothQueues : Obligations.QFlushEmptiesBothQueues := by
  unfold Obligations.QFlushEmptiesBothQueues
  intro s
  refine ⟨qFlush s, exec_qFlush s, qInit_emptied s.cfg s.txq, qInit_emptied s.cfg s.rxq, rfl, fun htx hrx => ?_⟩
  rw [exec_qFlush, qFlush_idem htx hrx]

end Sys2Proof.Machine
end

section
/-! PROOFS. The transaction engine (R121, R122, R128, R129): what a dequeue answers and that the packet it takes is the one
in the slot, the steps that write the request line, and the family `41_transaction.md`. -/

namespace Sys2Proof.Machine

variable {s : State} {c : Config} {q : Queue}

/-! ### A dequeue, and the packet it takes -/

theorem qDequeue_of_empty (d : Nat) (h : q.head = q.tail) : qDequeue c q d = .ok none := by
  have hempty : qIsEmpty q = true := qIsEmpty_iff.mpr h
  simp [qDequeue, qPeek, hempty]

theorem qDequeue_of_nonempty (d : Nat) (h : q.head ≠ q.tail) (hhead : q.head < c.qdepth) :
    qDequeue c q d = .ok (some (headPacket c q d, { q with head := nextIndex c q.head })) := by
  have hempty : qIsEmpty q ≠ true := mt qIsEmpty_iff.mp h
  simp [qDequeue, qPeek, hempty, hhead]

/-- R60: the bytes of one slot lie one after another. -/
theorem slotAddr_add (c : Config) (i k j : Nat) : slotAddr c i k + j = slotAddr c i (k + j) := Nat.add_assoc ..

/-- R104, R105: where the head slot holds a packet, the head packet is that packet; none of its bytes is a draw. -/
theorem headPacket_copied (d : Nat) (h : q.Holds c q.head) : q.Copied c q.head (headPacket c q d) := by
  obtain ⟨hstatus, len, hlen, hbound, -⟩ := h
  rw [headPacket_of_written hstatus hlen]
  refine ⟨hstatus.symm, hlen.symm, fun j hj => ?_⟩
  have hin : 0 ≤ j ∧ j < 0 + min len.toNat c.maxLen := by
    rw [Nat.min_eq_left hbound]
    exact ⟨j.zero_le, by rwa [Nat.zero_add]⟩
  rw [Memory.read_slice, if_pos hin, Nat.sub_zero, slotAddr_add]
  rfl

/-! ### The request line -/

/-- R121. -/
theorem exec_sStart (hfatal : s.fatal = false) (hsvc : s.svcSt = .sStart) :
    exec .sStart s = .next { s with reqn := false, svcSt := .sFetch } := by
  rw [exec, execSStart, svcStep_at hsvc hfatal]

/-- R128. -/
theorem exec_sEnd (hfatal : s.fatal = false) (hsvc : s.svcSt = .sEnd) :
    exec .sEnd s = .next { s with reqn := true, svcSt := .sRearm } := by
  rw [exec, execSEnd, svcStep_at hsvc hfatal]

/-- R129: the line is written only where TXQ is not empty. -/
theorem exec_sRearm (hfatal : s.fatal = false) (hsvc : s.svcSt = .sRearm) :
    exec .sRearm s = .next { s with reqn := if qIsEmpty s.txq then s.reqn else false, svcSt := .sPost } := by
  rw [exec, execSRearm, svcStep_at hsvc hfatal]

/-- Settles O24: one equation per step; S_REARM's two clauses are the two values of `qIsEmpty`. -/
theorem transactionLineSteps : Obligations.TransactionLineSteps := by
  unfold Obligations.TransactionLineSteps
  intro s hfatal
  refine ⟨exec_sStart hfatal, exec_sEnd hfatal, fun hsvc hempty => ?_, fun hsvc hne => ?_⟩
  · rw [exec_sRearm hfatal hsvc, if_pos (qIsEmpty_iff.mpr hempty)]
  · rw [exec_sRearm hfatal hsvc, if_neg (mt qIsEmpty_iff.mp hne)]

/-! ### The outgoing packet -/

theorem exec_sFetch (hfatal : s.fatal = false) (hsvc : s.svcSt = .sFetch) : exec .sFetch s = fetchOutgoing s :=
  svcStep_at hsvc hfatal

/-- R122: an empty TXQ gives the null packet. -/
theorem fetchOutgoing_of_empty (h : s.txq.head = s.txq.tail) :
    fetchOutgoing s = .next { s with txb := Packet.null, svcSt := .sHdr0 } := by
  rw [fetchOutgoing, qDequeue_of_empty s.draws h]

/-- R122: otherwise TXB is the head packet, taken off TXQ. -/
theorem fetchOutgoing_of_nonempty (h : s.txq.head ≠ s.txq.tail) (hhead : s.txq.head < s.cfg.qdepth) :
    fetchOutgoing s = .next (fresh { s with
      txb := headPacket s.cfg s.txq s.draws
      txq := { s.txq with head := nextIndex s.cfg s.txq.head }
      svcSt := .sHdr0 }) := by
  rw [fetchOutgoing, qDequeue_of_nonempty s.draws h hhead]

/-- Settles O25: a fetch is the dequeue of TXQ, and what it takes from a slot that holds a packet is `headPacket_copied`. -/
theorem fetchTakesOutgoingPacket : Obligations.FetchTakesOutgoingPacket := by
  unfold Obligations.FetchTakesOutgoingPacket
  intro s hfatal hsvc
  rw [exec_sFetch hfatal hsvc]
  exact ⟨fun hempty => ⟨Packet.null, rfl, rfl, fetchOutgoing_of_empty hempty⟩,
    fun hne hhead hholds => ⟨_, _, headPacket_copied s.draws hholds, fetchOutgoing_of_nonempty hne hhead⟩⟩

end Sys2Proof.Machine
end

section
/-! PROOFS. The line monitor and interrupt bridge (R141, R143, R145): entry to the service handler and return from it, the
edge latch, and the family `42_bridge.md`. -/

namespace Sys2Proof.Machine

variable {s : State}

/-! ### Entry and return -/

/-- R143: in EDGE mode S_ENTRY is the service entry. -/
theorem exec_sEntry (hfatal : s.fatal = false) (hsvc : s.svcSt = .sEntry) (hmode : s.mode = .edge) :
    exec .sEntry s = .next (serviceEntry s) := by
  rw [exec, execSEntry, svcStep_at hsvc hfatal, if_pos hmode]

/-- R145: S_EXIT is the service return, in both modes. -/
theorem exec_sExit (hfatal : s.fatal = false) (hsvc : s.svcSt = .sExit) : exec .sExit s = .next (serviceReturn s) := by
  rw [exec, execSExit, svcStep_at hsvc hfatal]

/-- R145: the return attaches the handler again in EDGE mode. -/
theorem serviceReturn_of_edge (hmode : s.mode = .edge) :
    serviceReturn s = { s with attached := true, svcSt := .sIdle } := by
  rw [serviceReturn, if_pos hmode]

/-- R145: in POLLED mode there is no handler to attach, and the return writes SVC_ST alone. -/
theorem serviceReturn_of_polled (hmode : s.mode = .polled) : serviceReturn s = { s with svcSt := .sIdle } := by
  have hedge : s.mode ≠ .edge := by simp [hmode]
  rw [serviceReturn, if_neg hedge]

/-- Settles O33: S_ENTRY is `serviceEntry`; S_EXIT is `serviceReturn`, whose two modes are one equation each. -/
theorem serviceEntryAndReturn : Obligations.ServiceEntryAndReturn := by
  unfold Obligations.ServiceEntryAndReturn
  intro s hfatal
  refine ⟨exec_sEntry hfatal, fun hsvc hedge => ?_, fun hsvc hpolled => ?_⟩
  · rw [exec_sExit hfatal hsvc, serviceReturn_of_edge hedge]
  · rw [exec_sExit hfatal hsvc, serviceReturn_of_polled hpolled]

/-! ### The ready line and its latch -/

/-- R141: whether a change of RDYN to `level` is latched. ATTACHED and RDY_MASK play no part. -/
def edgeLatch (level : Bool) (s : State) : Bool :=
  s.rdyn && !level && s.initDone && !s.fatal && s.mode == .edge

theorem edgeLatch_iff {level : Bool} :
    edgeLatch level s = true ↔
      s.rdyn = true ∧ level = false ∧ s.initDone = true ∧ s.fatal = false ∧ s.mode = .edge := by
  simp [edgeLatch, and_assoc]

/-- R141: a ready-line change writes RDYN and adds the latch to RDY_PEND; an edge that is pending stays so. -/
theorem exec_devRdyn (level : Bool) (s : State) :
    exec (.devRdyn level) s = .next { s with rdyn := level, rdyPend := s.rdyPend || edgeLatch level s } :=
  rfl

/-- Settles O38: the two clauses are the two values of `edgeLatch`. -/
theorem readyLineEdgeLatch : Obligations.ReadyLineEdgeLatch := by
  unfold Obligations.ReadyLineEdgeLatch
  intro v s
  refine ⟨fun hfalling => ?_, fun hother => ?_⟩
  · rw [exec_devRdyn, edgeLatch_iff.mpr hfalling, Bool.or_true]
  · rw [exec_devRdyn, Bool.eq_false_of_not_eq_true (mt edgeLatch_iff.mp hother), Bool.or_false]

end Sys2Proof.Machine
end

section
/-! PROOFS. The flow controller (R161, R162): the mask check and the unmask check, where each writes RDY_MASK and where it
writes nothing, and the family `43_flow_control.md`. -/

namespace Sys2Proof.Machine

variable {s : State} {ok wasFull : Bool}

/-! ### Mask on saturation -/

theorem exec_maskCheck (s : State) : exec .maskCheck s = .next (maskCheck s) := rfl

/-- R161: in EDGE mode a full RXQ sets the mask. -/
theorem maskCheck_of_edge_full (hedge : s.mode = .edge) (hfull : qIsFull s.cfg s.rxq = true) :
    maskCheck s = { s with rdyMask := true } := by
  obtain ⟨-, -, hset⟩ | ⟨hnot, -⟩ := maskCheck_cases s
  · exact hset
  · exact absurd ⟨hedge, hfull⟩ hnot

/-- R161: in POLLED mode, and while RXQ has room, the mask check writes nothing. -/
theorem maskCheck_of_polled_or_room (h : s.mode = .polled ∨ qIsFull s.cfg s.rxq = false) : maskCheck s = s := by
  obtain ⟨hedge, hfull, -⟩ | ⟨-, hkeep⟩ := maskCheck_cases s
  · simp [hedge, hfull] at h
  · exact hkeep

/-! ### Unmask on drain -/

theorem exec_unmaskCheck (ok wasFull : Bool) (s : State) :
    exec (.unmaskCheck ok wasFull) s = .next (unmaskCheck ok wasFull s) := rfl

/-- R162: in EDGE mode a successful dequeue from a full RXQ clears the mask. -/
theorem unmaskCheck_of_drained (hok : ok = true) (hwas : wasFull = true) (hedge : s.mode = .edge) :
    unmaskCheck ok wasFull s = { s with rdyMask := false } := by
  obtain ⟨-, -, -, hclear⟩ | ⟨hnot, -⟩ := unmaskCheck_cases ok wasFull s
  · exact hclear
  · exact absurd ⟨hok, hwas, hedge⟩ hnot

/-- R162: after a failed dequeue, one from a RXQ that was not full, or in POLLED mode, the unmask check writes nothing. -/
theorem unmaskCheck_of_not_drained (h : ok = false ∨ wasFull = false ∨ s.mode = .polled) :
    unmaskCheck ok wasFull s = s := by
  obtain ⟨hok, hwas, hedge, -⟩ | ⟨-, hkeep⟩ := unmaskCheck_cases ok wasFull s
  · simp [hok, hwas, hedge] at h
  · exact hkeep

/-- Settles O39: each operation runs its check, and each check has one equation where it writes and one where it does not. -/
theorem maskAndUnmask : Obligations.MaskAndUnmask := by
  unfold Obligations.MaskAndUnmask
  intro ok wasFull s
  rw [exec_maskCheck, exec_unmaskCheck]
  exact ⟨fun hedge hfull => congrArg _ (maskCheck_of_edge_full hedge hfull),
    fun hno => congrArg _ (maskCheck_of_polled_or_room hno),
    fun hok hwas hedge => congrArg _ (unmaskCheck_of_drained hok hwas hedge),
    fun hno => congrArg _ (unmaskCheck_of_not_drained hno)⟩

end Sys2Proof.Machine
end

section
/-! PROOFS. Decoding and encoding agree (R81 to R84, R91): each is the other's inverse, how long a command is, the fields of
the response word, and the rest of the family `30_encoding.md`. -/

namespace Sys2Proof

variable {cmd : Byte} {operands : List Byte} {i : Instr}

/-! ### From the bytes to the command -/

/-- R83: only INIT, DEBUG_SET and SEND take operand bytes. -/
theorem eq_nil_of_operandsFit {op : Nat} (h1 : op ≠ 1) (h10 : op ≠ 10) (h2 : op ≠ 2)
    (hfit : operandsFit op operands = true) : operands = [] := by
  simpa [operandsFit, h1, h10, h2] using hfit

/-- R91: operand bytes that fit the opcode are what the decoder takes, whatever follows them. -/
theorem takeOperands_append {op : Nat} (hfit : operandsFit op operands = true) (rest : List Byte) :
    takeOperands op (operands ++ rest) = some (operands, rest) := by
  by_cases hbyte : op = 1 ∨ op = 10
  · obtain ⟨b, rfl⟩ := (operandsFit_one_byte_iff hbyte).mp hfit
    rcases hbyte with rfl | rfl <;> rfl
  by_cases hsend : op = 2
  · subst hsend
    obtain ⟨len, payload, rfl, hlen⟩ := operandsFit_send_iff.mp hfit
    simp [takeOperands, ← hlen]
  · rw [not_or] at hbyte
    obtain rfl := eq_nil_of_operandsFit hbyte.1 hbyte.2 hsend hfit
    simp [takeOperands, hbyte, hsend]

/-- R91: a command word with operand bytes that fit is read whole. -/
theorem decode_append (hfit : operandsFit (opField cmd) operands = true) (rest : List Byte) :
    decode (cmd :: operands ++ rest) = .ok (decodeCommand cmd operands, rest) := by
  simp [decode, takeOperands_append hfit]

/-- R81 to R84, R90: the bytes of a well-formed command are a command word and operand bytes that fit it and stand for the
command. -/
theorem encode_eq_some {bs : List Byte} (hwf : i.wf = true) (henc : encode i = some bs) :
    ∃ cmd operands, bs = cmd :: operands ∧ operandsFit (opField cmd) operands = true ∧
      decodeCommand cmd operands = i := by
  cases i with
  | send payload =>
    cases henc
    refine ⟨_, _, rfl, operandsFit_send_iff.mpr ⟨_, _, rfl, ?_⟩, rfl⟩
    have hlen : payload.length ≤ 255 := of_decide_eq_true hwf
    rw [BitVec.toNat_ofNat, Nat.mod_eq_of_lt (by omega)]
  | illegal cmd operands =>
    cases henc
    obtain ⟨hfit, hill⟩ := Bool.and_eq_true_iff.mp hwf
    exact ⟨cmd, operands, rfl, hfit, (decodeCommand_eq_illegal_iff hfit).mpr ⟨hill, rfl, rfl⟩⟩
  | init mode => cases henc; cases mode <;> exact ⟨_, _, rfl, rfl, rfl⟩
  | debugSet enable => cases henc; cases enable <;> exact ⟨_, _, rfl, rfl, rfl⟩
  | peekEvent | getEvent | txqEmpty | txqFull | rxqEmpty | rxqFull | flush =>
    cases henc; exact ⟨_, _, rfl, rfl, rfl⟩
  | _ => cases henc

/-- Settles O1: the encoding is a command word with operand bytes that fit, which `decode_append` reads. -/
theorem decodeEncodeAgree : Obligations.DecodeEncodeAgree := by
  unfold Obligations.DecodeEncodeAgree
  intro i bs rest hwf henc
  obtain ⟨cmd, operands, rfl, hfit, rfl⟩ := encode_eq_some hwf henc
  exact decode_append hfit rest

/-! ### From the command to the bytes -/

/-- R81: a command word without reserved bits is its opcode. -/
theorem eq_ofNat_opField (hrsv : ¬rsvField cmd ≠ 0) : cmd = BitVec.ofNat 8 (opField cmd) := by
  apply BitVec.eq_of_toNat_eq
  have hlt := cmd.isLt
  rw [BitVec.toNat_ofNat]
  unfold rsvField at hrsv
  unfold opField
  omega

/-- R83: an operand byte that is not refused is the bit it stands for. -/
theorem operandBit_eq_some {b : Byte} {bit : Bool} (h : operandBit b = some bit) : b = if bit then 1 else 0 := by
  unfold operandBit at h
  split at h
  next hsmall =>
    cases h
    obtain hb | hb : b.toNat = 0 ∨ b.toNat = 1 := by omega
    · obtain rfl : b = 0 := BitVec.eq_of_toNat_eq hb
      rfl
    · obtain rfl : b = 1 := BitVec.eq_of_toNat_eq hb
      rfl
  next => cases h

/-- R83: the operand byte of INIT is that of the mode it gives. -/
theorem modeByte_modeOfBit (edge : Bool) : modeByte (modeOfBit edge) = if edge then 1 else 0 := by
  cases edge <;> rfl

/-- R81 to R84: a decoded command that is no refusal encodes to the bytes it was read from. -/
theorem encode_decodeCommand (hfit : operandsFit (opField cmd) operands = true) :
    encode (decodeCommand cmd operands) = some (cmd :: operands) := by
  unfold decodeCommand
  split
  next => rfl
  next hrsv =>
    have hcmd := eq_ofNat_opField hrsv
    split
    case h_1 cfg hop => -- INIT
      split
      next edge hbit => rw [hcmd, hop, operandBit_eq_some hbit, ← modeByte_modeOfBit]; rfl
      next => rfl
    case h_10 d hop => -- DEBUG_SET
      split
      next enable hbit => rw [hcmd, hop, operandBit_eq_some hbit]; rfl
      next => rfl
    case h_2 len payload hop => -- SEND
      obtain ⟨_, _, heq, hlen⟩ := operandsFit_send_iff.mp (hop ▸ hfit)
      cases heq
      rw [hcmd, hop]
      simp [encode, hlen]
    case h_11 => rfl
    case h_3 hop | h_4 hop | h_5 hop | h_6 hop | h_7 hop | h_8 hop | h_9 hop => -- no operands
      have hnil := eq_nil_of_operandsFit (by simp [hop]) (by simp [hop]) (by simp [hop]) hfit
      rw [hcmd, hop, hnil]
      rfl

/-- R82, R90: what the decoder answers is well-formed. -/
theorem wf_decodeCommand (hfit : operandsFit (opField cmd) operands = true) :
    (decodeCommand cmd operands).wf = true := by
  cases hi : decodeCommand cmd operands with
  | illegal c ops =>
    obtain ⟨hill, rfl, rfl⟩ := (decodeCommand_eq_illegal_iff hfit).mp hi
    exact Bool.and_eq_true_iff.mpr ⟨hfit, hill⟩
  | send payload =>
    have henc := encode_decodeCommand hfit
    rw [hi] at henc
    obtain ⟨rfl, rfl⟩ : cmd = 2 ∧ operands = BitVec.ofNat 8 payload.length :: payload := by
      simpa [encode, eq_comm] using henc
    obtain ⟨len, _, heq, hlen⟩ := operandsFit_send_iff.mp hfit
    cases heq
    have hlt := (BitVec.ofNat 8 payload.length).isLt
    exact decide_eq_true (by omega)
  | init | peekEvent | getEvent | txqEmpty | txqFull | rxqEmpty | rxqFull | flush | debugSet => rfl
  | _ =>
    have henc := encode_decodeCommand hfit
    rw [hi] at henc
    cases henc

/-- Settles O2: a decoded command is that of a command word and operand bytes that fit. -/
theorem decodeTakesExactlyTheEncoding : Obligations.DecodeTakesExactlyTheEncoding := by
  unfold Obligations.DecodeTakesExactlyTheEncoding
  intro bs rest i h
  cases bs with
  | nil => cases h
  | cons cmd bs =>
    obtain ⟨operands, rfl, rfl, hfit⟩ := decode_cons_eq_ok h
    exact ⟨wf_decodeCommand hfit, _, encode_decodeCommand hfit, rfl⟩

/-! ### Lengths -/

/-- R91: a command of which operand bytes are missing is not read. -/
theorem decode_truncated {bs : List Byte} (h : takeOperands (opField cmd) bs = none) :
    decode (cmd :: bs) = .error .truncated := by
  simp [decode, h]

/-- Settles O4: each opcode's operand bytes, where they are there, fit it; else the decoder takes none. -/
theorem commandLengthByOpcode : Obligations.CommandLengthByOpcode := by
  unfold Obligations.CommandLengthByOpcode
  intro cmd bs
  refine ⟨fun hop => ⟨?_, fun hne => ?_⟩, fun hop => ⟨?_, ?_⟩, fun h1 h10 h2 => ?_⟩
  · rintro rfl
    apply decode_truncated
    rcases hop with hop | hop <;> simp [takeOperands, opField, hop]
  · obtain ⟨b, rest, rfl⟩ := List.exists_cons_of_ne_nil hne
    exact ⟨_, decode_append ((operandsFit_one_byte_iff hop).mpr ⟨b, rfl⟩) rest⟩
  · rintro rfl
    apply decode_truncated
    simp [takeOperands, opField, hop]
  · rintro len more rfl
    refine ⟨fun hshort => decode_truncated ?_, fun hlong => ?_⟩
    · simp [takeOperands, opField, hop, hshort]
    · have hfit : operandsFit (opField cmd) (len :: more.take len.toNat) = true := by
        rw [opField, hop]
        exact operandsFit_send_iff.mpr ⟨_, _, rfl, List.length_take_of_le hlong⟩
      have hread := decode_append hfit (more.drop len.toNat)
      simp only [List.cons_append, List.take_append_drop] at hread
      exact ⟨_, hread⟩
  · exact ⟨_, decode_append (operandsFit_nil h1 h10 h2) bs⟩

/-! ### Sample words and the response word -/

/-- Settles O5: each word is a closed computation of the decoder. -/
theorem sampleWordsDecode : Obligations.SampleWordsDecode := by
  unfold Obligations.SampleWordsDecode
  exact ⟨rfl, rfl, rfl, rfl, rfl, rfl, rfl, rfl, rfl, rfl⟩

end Sys2Proof

namespace Sys2Proof.Machine

/-- Settles O6: the six response words, one for each code and result. -/
theorem responseWordFields : Obligations.ResponseWordFields := by
  unfold Obligations.ResponseWordFields
  intro code result
  cases code <;> cases result <;> exact ⟨rfl, rfl⟩

end Sys2Proof.Machine
end

section
/-! PROOFS. Scheduling (R12 to R18, R69): the operation that a listed turn selects, what selecting it leaves of the state, what
goes on after a fatal, and the family `00_scope.md`. -/

namespace Sys2Proof.Machine

variable {s t : State} {turns : List Turn} {i : Instr}

/-! ### Taking a turn -/

theorem step_of_selected {u : State} (h : nextOperation s = (some i, u)) : step s = exec i u := by
  rw [step, h]

theorem step_of_none {u : State} (h : nextOperation s = (none, u)) : step s = .next u := by
  rw [step, h]

/-- A listed turn selects what its agent does next in the state without that turn. -/
theorem nextOperation_of_turn {turn : Turn} (ht : s.turns = turn :: turns) :
    nextOperation s = agentOperation turn { s with turns := turns } := by
  simp [nextOperation, currentTurn, popTurn, ht]

/-- The model's own: past the listed turns the agent is a draw. -/
theorem nextOperation_of_no_turn (ht : s.turns = []) :
    nextOperation s = agentOperation (Config.freeTurn s.draws) { s with draws := s.draws + 1 } := by
  simp [nextOperation, currentTurn, popTurn, ht]

theorem hostEnabled_iff : hostEnabled s = true ↔ s.fatal = false ∧ s.svcSt = .sIdle := by
  simp [hostEnabled]

/-! ### HOST's turn -/

/-- R12, R80: a free HOST takes the command on the port. -/
theorem hostOperation_of_command {rest : List Byte} (hs : s.Accepts) (hd : decode s.cmdPort = .ok (i, rest)) :
    hostOperation s = (some i, { s with cmdPort := rest }) := by
  obtain ⟨hfatal, hsvc, hcmd⟩ := hs
  simp [hostOperation, hostEnabled_iff.mpr ⟨hfatal, hsvc⟩, hcmd, hd]

/-- R44: a HOST that may step goes on with its command. -/
theorem hostOperation_of_hcmd {h : HostCommand} (hs : hostEnabled s = true) (hcmd : s.hcmd = some h) :
    hostOperation s = (some h.instr, s) := by
  simp [hostOperation, hs, hcmd]

/-- R15, R18: a HOST that may not step has no operation. -/
theorem hostOperation_of_disabled (hs : s.fatal = true ∨ s.svcSt ≠ .sIdle) : hostOperation s = (none, s) := by
  have hno : hostEnabled s ≠ true := fun h => by
    obtain ⟨hfatal, hsvc⟩ := hostEnabled_iff.mp h
    simp [hfatal, hsvc] at hs
  simp [hostOperation, hno]

/-- The model's own: a HOST without a whole command has no operation. -/
theorem hostOperation_of_no_command {e : DecodeError} (hcmd : s.hcmd = none) (hd : decode s.cmdPort = .error e) :
    hostOperation s = (none, s) := by
  simp [hostOperation, hcmd, hd]

/-- Settles O7: HOST's turn selects the command that the decoder reads. -/
theorem stepRunsDecodedCommand : Obligations.StepRunsDecodedCommand := by
  unfold Obligations.StepRunsDecodedCommand
  intro s turns i rest ht hs hd
  refine step_of_selected ((nextOperation_of_turn ht).trans ?_)
  exact hostOperation_of_command (s := { s with turns := turns }) hs hd

/-- Settles O8: HOST's turn selects the command in progress. -/
theorem stepContinuesCommand : Obligations.StepContinuesCommand := by
  unfold Obligations.StepContinuesCommand
  intro s turns h ht hfatal hsvc hcmd
  refine step_of_selected ((nextOperation_of_turn ht).trans ?_)
  exact hostOperation_of_hcmd (s := { s with turns := turns }) (hostEnabled_iff.mpr ⟨hfatal, hsvc⟩) hcmd

/-- Settles O9: SVC's turn is `step_svc`; DEV's and the reset input's name their operation. -/
theorem stepRunsServiceDeviceReset : Obligations.StepRunsServiceDeviceReset := by
  unfold Obligations.StepRunsServiceDeviceReset
  intro s turns level i
  exact ⟨step_svc, fun ht => step_of_selected (nextOperation_of_turn ht),
    fun ht => step_of_selected (nextOperation_of_turn ht)⟩

/-! ### Turns that pass -/

/-- R18: after a fatal SVC has no operation. -/
theorem svcOperation_of_fatal (hf : s.fatal = true) : svcOperation s = none := by
  simp [svcOperation, hf]

/-- Settles O10: in each case the agent has no operation, and taking the turn is all that is left of the step. -/
theorem stepPassesDisabledTurn : Obligations.StepPassesDisabledTurn := by
  unfold Obligations.StepPassesDisabledTurn
  intro s turns
  refine ⟨fun ht hs => ?_, fun e ht hcmd hd => ?_, fun ht hf => ?_⟩ <;>
    refine step_of_none ((nextOperation_of_turn ht).trans ?_)
  · exact hostOperation_of_disabled (s := { s with turns := turns }) hs
  · exact hostOperation_of_no_command (s := { s with turns := turns }) hcmd hd
  · exact congrArg (·, { s with turns := turns }) (svcOperation_of_fatal (s := { s with turns := turns }) hf)

/-- Settles O11: both sides select the drawn agent's operation in the same state. -/
theorem stepTakesFreeTurn : Obligations.StepTakesFreeTurn := by
  unfold Obligations.StepTakesFreeTurn
  intro s ht
  rw [step, step, nextOperation_of_no_turn ht, nextOperation_of_turn rfl, ← ht]

/-! ### What selecting an operation leaves of the state -/

/-- `u` is `s` but for the turns, the draw counter and the command port. -/
def SameButSchedule (s u : State) : Prop :=
  u = { s with turns := u.turns, draws := u.draws, cmdPort := u.cmdPort }

theorem popTurn_sameButSchedule (s : State) : SameButSchedule s (popTurn s) := by
  unfold popTurn
  split <;> rfl

/-- Whichever agent moves, its operation runs in the state with the turn, and bytes of a command, taken. -/
theorem nextOperation_sameButSchedule (s : State) : SameButSchedule s (nextOperation s).2 := by
  have hpop := popTurn_sameButSchedule s
  unfold nextOperation agentOperation
  split
  case h_1 =>
    obtain hop | ⟨_, _, _, hop⟩ | ⟨_, rest, _, _, _, hop⟩ := hostOperation_cases (popTurn s)
    · rwa [hop]
    · rwa [hop]
    · rw [hop, hpop]
      rfl
  case h_2 | h_3 | h_4 => exact hpop

/-! ### After a fatal -/

/-- R141: no edge is latched after a fatal. -/
theorem exec_devRdyn_of_fatal (level : Bool) (hf : s.fatal = true) :
    exec (.devRdyn level) s = .next { s with rdyn := level } := by
  have hlatch : edgeLatch level s = false := by simp [edgeLatch, hf]
  rw [exec_devRdyn, hlatch, Bool.or_false]

/-- Settles O36: HOST and SVC have no operation, DEV writes RDYN alone, and what is left is the reset. -/
theorem fatalIsAbsorbing : Obligations.FatalIsAbsorbing := by
  unfold Obligations.FatalIsAbsorbing
  intro s t hf hstep
  have hf' : (popTurn s).fatal = true := (popTurn_fatal s).trans hf
  have hpop : popTurn s = { s with turns := (popTurn s).turns, draws := (popTurn s).draws } := by
    unfold popTurn
    split <;> rfl
  have passes (hnext : nextOperation s = (none, popTurn s)) :
      t = { s with rdyn := t.rdyn, turns := t.turns, draws := t.draws } := by
    rw [step_of_none hnext] at hstep
    cases hstep
    rw [popTurn_rdyn]
    exact hpop
  cases hturn : currentTurn s with
  | host =>
    right
    apply passes
    rw [nextOperation, hturn]
    exact hostOperation_of_disabled (.inl hf')
  | svc =>
    right
    apply passes
    rw [nextOperation, hturn]
    exact congrArg (·, popTurn s) (svcOperation_of_fatal hf')
  | dev level =>
    right
    have hnext : nextOperation s = (some (.devRdyn level), popTurn s) := by rw [nextOperation, hturn]; rfl
    rw [step_of_selected hnext, exec_devRdyn_of_fatal level hf', hpop] at hstep
    cases hstep
    rfl
  | rst =>
    left
    rw [State.runs, nextOperation, hturn]
    rfl

end Sys2Proof.Machine
end

section
/-! PROOFS. What an operation can do: the micro-steps of each host command as one table, and `Effect`, every next state that
`exec` can give. The claims about all operations are read from it. -/

namespace Sys2Proof

/-- R180: whether a command is refused before INIT. -/
def Instr.needsInit : Instr → Bool
  | .init _ | .debugSet _ | .illegal _ _ => false
  | _ => true

/-- R183, R184: the commands that poll are host commands. -/
theorem Instr.polls_iff {i : Instr} : i.polls = true ↔ i = .peekEvent ∨ i = .getEvent := by
  simp [Instr.polls]

end Sys2Proof

namespace Sys2Proof.Machine

variable {s t : State} {i : Instr}

/-! ### A queue or packet register by name: the bits that its replacement leaves -/

@[simp] theorem setQueue_mode (s : State) (name : QueueName) (q : Queue) : (s.setQueue name q).mode = s.mode := by
  cases name <;> rfl
@[simp] theorem setQueue_reqn (s : State) (name : QueueName) (q : Queue) : (s.setQueue name q).reqn = s.reqn := by
  cases name <;> rfl
@[simp] theorem setQueue_rdyMask (s : State) (name : QueueName) (q : Queue) : (s.setQueue name q).rdyMask = s.rdyMask := by
  cases name <;> rfl
@[simp] theorem setQueue_attached (s : State) (name : QueueName) (q : Queue) : (s.setQueue name q).attached = s.attached := by
  cases name <;> rfl
@[simp] theorem setQueue_rdyPend (s : State) (name : QueueName) (q : Queue) : (s.setQueue name q).rdyPend = s.rdyPend := by
  cases name <;> rfl
@[simp] theorem setQueue_rdyn (s : State) (name : QueueName) (q : Queue) : (s.setQueue name q).rdyn = s.rdyn := by
  cases name <;> rfl
@[simp] theorem setQueue_fatal (s : State) (name : QueueName) (q : Queue) : (s.setQueue name q).fatal = s.fatal := by
  cases name <;> rfl
@[simp] theorem setQueue_initDone (s : State) (name : QueueName) (q : Queue) : (s.setQueue name q).initDone = s.initDone := by
  cases name <;> rfl
@[simp] theorem setQueue_debugEn (s : State) (name : QueueName) (q : Queue) : (s.setQueue name q).debugEn = s.debugEn := by
  cases name <;> rfl

@[simp] theorem setPacket_cfg (s : State) (r : PacketReg) (p : Packet) : (s.setPacket r p).cfg = s.cfg := by
  cases r <;> rfl
@[simp] theorem setPacket_mode (s : State) (r : PacketReg) (p : Packet) : (s.setPacket r p).mode = s.mode := by
  cases r <;> rfl
@[simp] theorem setPacket_reqn (s : State) (r : PacketReg) (p : Packet) : (s.setPacket r p).reqn = s.reqn := by
  cases r <;> rfl
@[simp] theorem setPacket_rdyMask (s : State) (r : PacketReg) (p : Packet) : (s.setPacket r p).rdyMask = s.rdyMask := by
  cases r <;> rfl
@[simp] theorem setPacket_attached (s : State) (r : PacketReg) (p : Packet) : (s.setPacket r p).attached = s.attached := by
  cases r <;> rfl
@[simp] theorem setPacket_rdyPend (s : State) (r : PacketReg) (p : Packet) : (s.setPacket r p).rdyPend = s.rdyPend := by
  cases r <;> rfl
@[simp] theorem setPacket_rdyn (s : State) (r : PacketReg) (p : Packet) : (s.setPacket r p).rdyn = s.rdyn := by
  cases r <;> rfl
@[simp] theorem setPacket_fatal (s : State) (r : PacketReg) (p : Packet) : (s.setPacket r p).fatal = s.fatal := by
  cases r <;> rfl
@[simp] theorem setPacket_initDone (s : State) (r : PacketReg) (p : Packet) : (s.setPacket r p).initDone = s.initDone := by
  cases r <;> rfl
@[simp] theorem setPacket_debugEn (s : State) (r : PacketReg) (p : Packet) : (s.setPacket r p).debugEn = s.debugEn := by
  cases r <;> rfl

/-! ### Host commands -/

/-- R191: the list of micro-steps of each host command. -/
def hostMicros : Instr → Nat → State → Result
  | .init mode => oneMicroStep (initLink mode)
  | .send payload => sendMicro payload
  | .peekEvent => pollThen .peekEvent peekHead
  | .getEvent => pollThen .getEvent getHead
  | .txqEmpty => oneMicroStep fun s => respond .done (qIsEmpty s.txq) [] s
  | .txqFull => oneMicroStep fun s => respond .done (qIsFull s.cfg s.txq) [] s
  | .rxqEmpty => oneMicroStep fun s => respond .done (qIsEmpty s.rxq) [] s
  | .rxqFull => oneMicroStep fun s => respond .done (qIsFull s.cfg s.rxq) [] s
  | .flush => oneMicroStep fun s => respond .done true [] (qFlush s)
  | .debugSet enable => oneMicroStep fun s => respond .done true [] { s with debugEn := enable }
  | .illegal _ _ => oneMicroStep fun s => respond .illegal false [] s
  | _ => fun _ _ => .fault .microStepRange

/-- R180, R191: a host command, which is an operation with an encoding (R94), runs its list of micro-steps. -/
theorem exec_hostCommand (hi : (encode i).isSome = true) (s : State) :
    exec i s = hostMicro i i.needsInit (hostMicros i) s := by
  cases i with
  | init | send | peekEvent | getEvent | txqEmpty | txqFull | rxqEmpty | rxqFull | flush | debugSet | illegal => rfl
  | _ => cases hi

/-- R191: no command has a third micro-step. -/
theorem hostMicros_past_end (i : Instr) (n : Nat) (s : State) : hostMicros i (n + 2) s = .fault .microStepRange := by
  cases i <;> rfl

/-- R12, R15: HOST may take a micro-step of a command where it is enabled and no other command is in progress. -/
theorem hostReady_iff :
    hostReady i s = true ↔ hostEnabled s = true ∧ ∀ h, s.hcmd = some h → h.instr = i := by
  unfold hostReady
  cases s.hcmd <;> simp

/-- A command that HOST accepts runs its first micro-step. -/
theorem exec_first (hi : (encode i).isSome = true) (hs : s.Accepts) (hinit : i.needsInit = true → s.initDone = true) :
    exec i s = hostMicros i 0 s := by
  obtain ⟨hfatal, hsvc, hcmd⟩ := hs
  rw [exec_hostCommand hi, hostMicro_first hfatal hsvc hcmd hinit]

/-- A command in progress runs the micro-step after the one it is at. -/
theorem exec_continue {n : Nat} {ok : Bool} (hi : (encode i).isSome = true) (hs : hostEnabled s = true)
    (hcmd : s.hcmd = some ⟨i, n, ok⟩) : exec i s = hostMicros i (n + 1) s := by
  obtain ⟨hfatal, hsvc⟩ := hostEnabled_iff.mp hs
  rw [exec_hostCommand hi, hostMicro_continue hfatal hsvc hcmd]

theorem oneMicroStep_eq_next {body : State → State} {n : Nat} (h : oneMicroStep body n s = .next t) : t = body s := by
  cases n with
  | zero => cases h; rfl
  | succ n => cases h

/-- R146: the poll writes at most REQN and SVC_ST, as the rule says. -/
theorem pollCheck_polled (s : State) :
    ∃ reqn svcSt, s.Polled reqn svcSt ∧ pollCheck s = { s with reqn := reqn, svcSt := svcSt } := by
  obtain ⟨hfull, heq⟩ | ⟨hroom, hhigh, hempty, heq⟩ | ⟨hroom, hhigh, hempty, heq⟩ | ⟨hroom, hlow, heq⟩ :=
    pollCheck_cases s
  · exact ⟨s.reqn, s.svcSt, by simp [State.Polled, hfull], heq⟩
  · exact ⟨s.reqn, s.svcSt, by simp [State.Polled, hroom, hhigh, qIsEmpty_iff.mp hempty], heq⟩
  · have hne : s.txq.head ≠ s.txq.tail := by simpa [qIsEmpty] using hempty
    exact ⟨false, s.svcSt, by simp [State.Polled, hroom, hhigh, hne], heq⟩
  · exact ⟨s.reqn, .sStart, by simp [State.Polled, hroom, hlow], heq⟩

/-! ### The next states of every operation -/

/-- The next states that `exec` can give: one constructor for each way in which an operation goes on, with what holds then. -/
inductive Effect (s : State) : Instr → State → Prop
  /-- A host command waits (R15, R16, R18). -/
  | waits {i : Instr} (hi : (encode i).isSome = true) : Effect s i s
  /-- A host command is answered without data and changes nothing: a refusal, a failure or a predicate. -/
  | answered {i : Instr} (hi : (encode i).isSome = true) (hs : hostEnabled s = true) (code : Code) (result : Bool) :
      Effect s i (respond code result [] s)
  | linked (mode : Mode) (hs : hostEnabled s = true) : Effect s (.init mode) (initLink mode s)
  /-- SEND's s1 with room. -/
  | sendQueued (payload : List Byte) (q : Queue) (hs : hostEnabled s = true) (hinit : s.initDone = true)
      (hlen : payload.length ≤ s.cfg.maxLen)
      (hq : qEnqueue s.cfg s.txq (Packet.ofBytes 0 (BitVec.ofNat 8 payload.length) payload) s.draws = .ok (some q)) :
      Effect s (.send payload)
        { emitDiag .tx (Packet.ofBytes 0 (BitVec.ofNat 8 payload.length) payload) (fresh { s with txq := q }) with
          hcmd := some ⟨.send payload, 0, true⟩ }
  /-- SEND's s2. -/
  | sendAsserted (payload : List Byte) (hs : hostEnabled s = true) (hcmd : s.hcmd = some ⟨.send payload, 0, true⟩) :
      Effect s (.send payload) (respond .done true [] { s with reqn := false })
  /-- The poll of a polling command. -/
  | polledFirst {i : Instr} {reqn : Bool} {svcSt : SvcState} (hi : i.polls = true) (hs : hostEnabled s = true)
      (hinit : s.initDone = true) (hmode : s.mode = .polled) (hpolled : s.Polled reqn svcSt) :
      Effect s i { s with reqn := reqn, svcSt := svcSt, hcmd := some ⟨i, 0, false⟩ }
  | peeked (p : Packet) (hs : hostEnabled s = true) (hp : qPeek s.cfg s.rxq s.draws = .ok (some p)) :
      Effect s .peekEvent (respond .done true (Packet.image p s.cfg (fresh s).draws) (fresh (fresh s)))
  | got (p : Packet) (q : Queue) (data : List Byte) (hs : hostEnabled s = true)
      (hq : qDequeue s.cfg s.rxq s.draws = .ok (some (p, q))) :
      Effect s .getEvent
        (respond .done true data
          (fresh (emitDiag .rx p (unmaskCheck true (qIsFull s.cfg s.rxq) (fresh { s with rxq := q })))))
  | flushed (hs : hostEnabled s = true) : Effect s .flush (respond .done true [] (qFlush s))
  | debugWritten (enable : Bool) (hs : hostEnabled s = true) :
      Effect s (.debugSet enable) (respond .done true [] { s with debugEn := enable })
  | testedEmpty (q : QueueName) : Effect s (.qIsEmpty q) { s with primOk := qIsEmpty (s.queue q) }
  | testedFull (q : QueueName) : Effect s (.qIsFull q) { s with primOk := qIsFull s.cfg (s.queue q) }
  | emptied (q : QueueName) : Effect s (.qInit q) (s.setQueue q (qInit s.cfg (s.queue q)))
  | enqueueFull {q : QueueName} (st len : Byte) (payload : List Byte) (hfull : qIsFull s.cfg (s.queue q) = true) :
      Effect s (.qEnqueue q st len payload) { s with primOk := false }
  | enqueued {q : QueueName} {st len : Byte} {payload : List Byte} (q' : Queue)
      (hq : qEnqueue s.cfg (s.queue q) (Packet.ofBytes st len payload) s.draws = .ok (some q')) :
      Effect s (.qEnqueue q st len payload) (fresh ({ s with primOk := true }.setQueue q q'))
  | dequeueEmpty {q : QueueName} (dst : Option PacketReg) (hempty : qIsEmpty (s.queue q) = true) :
      Effect s (.qDequeue q dst) { s with primOk := false }
  | discarded {q : QueueName} (p : Packet) (q' : Queue)
      (hq : qDequeue s.cfg (s.queue q) s.draws = .ok (some (p, q'))) :
      Effect s (.qDequeue q none) (fresh ({ s with primOk := true }.setQueue q q'))
  | dequeued {q : QueueName} (dst : PacketReg) (p : Packet) (q' : Queue)
      (hq : qDequeue s.cfg (s.queue q) s.draws = .ok (some (p, q'))) :
      Effect s (.qDequeue q (some dst)) ((fresh ({ s with primOk := true }.setQueue q q')).setPacket dst p)
  | peekEmpty {q : QueueName} (dst : PacketReg) (hempty : qIsEmpty (s.queue q) = true) :
      Effect s (.qPeek q dst) { s with primOk := false }
  | peekedTo {q : QueueName} (dst : PacketReg) (p : Packet)
      (hp : qPeek s.cfg (s.queue q) s.draws = .ok (some p)) :
      Effect s (.qPeek q dst) ((fresh { s with primOk := true }).setPacket dst p)
  | bothEmptied : Effect s .qFlush (qFlush s)
  | requested (hsvc : s.svcSt = .sStart) : Effect s .sStart { s with reqn := false, svcSt := .sFetch }
  | fetchedNull (hsvc : s.svcSt = .sFetch) : Effect s .sFetch { s with txb := Packet.null, svcSt := .sHdr0 }
  | fetched (p : Packet) (q : Queue) (hsvc : s.svcSt = .sFetch)
      (hq : qDequeue s.cfg s.txq s.draws = .ok (some (p, q))) :
      Effect s .sFetch (fresh { s with txb := p, txq := q, svcSt := .sHdr0 })
  | headerSent (hsvc : s.svcSt = .sHdr0) :
      Effect s .sHdr0 { (exchange (txframe s.txb s.draws 0) s).2 with svcSt := .sHdr1 }
  | headerTaken (r : Byte) (hsvc : s.svcSt = .sHdr1) :
      Effect s .sHdr1
        { s with
          devAnswers := s.devAnswers.tail
          wire := s.wire ++ [⟨txframe s.txb s.draws 1, r⟩]
          draws := s.draws + 1
          ld := r
          rxb := ⟨0, BitVec.ofNat 8 (min r.toNat s.cfg.maxLen), []⟩
          mb := BitVec.ofNat 8 (maxBytes s.cfg s.txb.length.toNat r.toNat)
          k := 0
          svcSt := if 0 < maxBytes s.cfg s.txb.length.toNat r.toNat then .sBody else .sEnd }
  | bodyTaken (r : Byte) (hsvc : s.svcSt = .sBody) (hk : s.k.toNat < s.mb.toNat) (hmb : s.mb.toNat ≤ s.cfg.maxLen) :
      Effect s .sBody
        { s with
          devAnswers := s.devAnswers.tail
          wire := s.wire ++ [⟨txframe s.txb s.draws (2 + s.k.toNat), r⟩]
          draws := s.draws + 1
          rxb := { s.rxb with payload := Memory.write s.rxb.payload s.k.toNat r }
          k := s.k + 1
          svcSt := if s.k + 1 = s.mb then .sEnd else .sBody }
  | released (hsvc : s.svcSt = .sEnd) : Effect s .sEnd { s with reqn := true, svcSt := .sRearm }
  | rearmed (hsvc : s.svcSt = .sRearm) :
      Effect s .sRearm { s with reqn := if qIsEmpty s.txq then s.reqn else false, svcSt := .sPost }
  | startRefused : Effect s .svcStart s
  | started (hs : startEnabled s = true) : Effect s .svcStart (serviceStart s)
  | entered (hsvc : s.svcSt = .sEntry) (hmode : s.mode = .edge) : Effect s .sEntry (serviceEntry s)
  | postedNothing (hsvc : s.svcSt = .sPost) : Effect s .sPost { s with svcSt := .sExit }
  | postOverflowed (hsvc : s.svcSt = .sPost) (hfull : qIsFull s.cfg s.rxq = true) :
      Effect s .sPost (raiseFatal causeRxqOverflow s)
  | posted (q : Queue) (hsvc : s.svcSt = .sPost) (hq : qEnqueue s.cfg s.rxq s.rxb s.draws = .ok (some q)) :
      Effect s .sPost { maskCheck (fresh { s with rxq := q }) with svcSt := .sExit }
  | returned (hsvc : s.svcSt = .sExit) : Effect s .sExit (serviceReturn s)
  | pollRefused : Effect s .pollCheck s
  | polledAlone {reqn : Bool} {svcSt : SvcState} (hs : pollEnabled s = true) (hpolled : s.Polled reqn svcSt) :
      Effect s .pollCheck { s with reqn := reqn, svcSt := svcSt }
  | readyDriven (level : Bool) :
      Effect s (.devRdyn level) { s with rdyn := level, rdyPend := s.rdyPend || edgeLatch level s }
  | maskChecked : Effect s .maskCheck (maskCheck s)
  | unmaskChecked (ok wasFull : Bool) : Effect s (.unmaskCheck ok wasFull) (unmaskCheck ok wasFull s)
  | hardReset : Effect s .rst (hardReset s)
  | fatalRaised (cause : Byte) : Effect s (.fatal cause) (raiseFatal cause s)

/-! ### Host commands have only these effects -/

/-- R182, s1. -/
theorem sendEnqueue_effect {payload : List Byte} (hs : hostEnabled s = true) (hinit : s.initDone = true)
    (h : sendEnqueue payload s = .next t) : Effect s (.send payload) t := by
  unfold sendEnqueue at h
  split at h
  next => cases h; exact .answered rfl hs _ _
  next hlen =>
    dsimp only at h
    split at h
    next => cases h
    next => cases h; exact .answered rfl hs _ _
    next q hq => cases h; exact .sendQueued payload q hs hinit (by omega) hq

/-- R182, s2. -/
theorem sendAssert_effect {payload : List Byte} {h : HostCommand} (hs : hostEnabled s = true) (hcmd : s.hcmd = some h)
    (hinstr : h.instr = .send payload) (hcurrent : h.current = 0) (hnext : sendAssert s = .next t) :
    Effect s (.send payload) t := by
  unfold sendAssert at hnext
  split at hnext
  next hcmd' =>
    rw [hcmd'] at hcmd
    cases hcmd
    cases hnext
    obtain rfl := hinstr
    obtain rfl := hcurrent
    exact .sendAsserted payload hs hcmd'
  next => cases hnext

theorem peekHead_effect (hs : hostEnabled s = true) (h : peekHead s = .next t) : Effect s .peekEvent t := by
  unfold peekHead at h
  split at h
  next => cases h
  next => cases h; exact .answered rfl hs _ _
  next p hp => cases h; exact .peeked p hs hp

theorem getHead_effect (hs : hostEnabled s = true) (h : getHead s = .next t) : Effect s .getEvent t := by
  unfold getHead at h
  split at h
  next => cases h
  next =>
    rw [unmaskCheck_of_not_drained (.inl rfl)] at h
    cases h
    exact .answered rfl hs _ _
  next p q hq => cases h; exact .got p q _ hs hq

/-- The micro-steps of a polling command: the poll, or what `body` does. -/
theorem pollThen_effect {body : State → Result} {n : Nat} (hi : i.polls = true) (hs : hostEnabled s = true)
    (hinit : n = 0 → s.initDone = true) (hbody : ∀ u, body s = .next u → Effect s i u)
    (h : pollThen i body n s = .next t) : Effect s i t := by
  obtain ⟨hn, hmode, heq⟩ | ⟨-, -, heq⟩ | ⟨-, heq⟩ := pollThen_cases i body n s <;> rw [heq] at h
  · cases h
    obtain ⟨reqn, svcSt, hpolled, heq⟩ := pollCheck_polled s
    rw [pollFirst, heq]
    exact .polledFirst hi hs (hinit hn) hmode hpolled
  · exact hbody t h
  · cases h

/-- Each micro-step of each list, with what the acceptance of the command and HCMD say about its index. -/
theorem hostMicros_effect {n : Nat} (hi : (encode i).isSome = true) (hs : hostEnabled s = true)
    (hfirst : n = 0 → i.needsInit = true → s.initDone = true)
    (hnext : n ≠ 0 → ∃ h, s.hcmd = some h ∧ h.instr = i ∧ n = h.step)
    (h : hostMicros i n s = .next t) : Effect s i t := by
  cases i with
  | init mode => obtain rfl := oneMicroStep_eq_next h; exact .linked mode hs
  | send payload =>
    match n with
    | 0 => exact sendEnqueue_effect hs (hfirst rfl rfl) h
    | 1 =>
      obtain ⟨hc, hcmd, hinstr, hstep⟩ := hnext (by omega)
      exact sendAssert_effect hs hcmd hinstr (Nat.succ_injective hstep.symm) h
    | n + 2 => cases h
  | peekEvent => exact pollThen_effect rfl hs (hfirst · rfl) (fun _ => peekHead_effect hs) h
  | getEvent => exact pollThen_effect rfl hs (hfirst · rfl) (fun _ => getHead_effect hs) h
  | txqEmpty | txqFull | rxqEmpty | rxqFull | illegal =>
    obtain rfl := oneMicroStep_eq_next h
    exact .answered rfl hs _ _
  | flush => obtain rfl := oneMicroStep_eq_next h; exact .flushed hs
  | debugSet enable => obtain rfl := oneMicroStep_eq_next h; exact .debugWritten enable hs
  | _ => cases hi

/-- R180, R191: a host command waits, is refused before INIT, or takes one of its micro-steps. -/
theorem hostCommand_effect (hi : (encode i).isSome = true) (h : exec i s = .next t) : Effect s i t := by
  rw [exec_hostCommand hi] at h
  obtain ⟨-, heq⟩ | ⟨hready, -, -, -, heq⟩ | ⟨hready, -, hinit, heq⟩ | ⟨hc, hready, hcmd, heq⟩ :=
    hostMicro_cases i i.needsInit (hostMicros i) s <;> rw [heq] at h
  · cases h
    exact .waits hi
  · cases h
    exact .answered hi (hostReady_iff.mp hready).1 _ _
  · exact hostMicros_effect hi (hostReady_iff.mp hready).1 (fun _ => hinit) (absurd rfl) h
  · obtain ⟨hs, hsame⟩ := hostReady_iff.mp hready
    exact hostMicros_effect hi hs (by simp [HostCommand.step]) (fun _ => ⟨hc, hcmd, hsame hc hcmd, rfl⟩) h

/-! ### The other operations have only these effects -/

/-- R38: a step of the service sequence that goes on ran where SVC was at it. -/
theorem svcStep_eq_next {st : SvcState} {body : State → Result} (h : svcStep st body s = .next t) :
    s.svcSt = st ∧ body s = .next t := by
  obtain ⟨hsvc, -, heq⟩ | ⟨-, heq⟩ := svcStep_cases st body s <;> rw [heq] at h
  · exact ⟨hsvc, h⟩
  · cases h

theorem fetchOutgoing_effect (hsvc : s.svcSt = .sFetch) (h : fetchOutgoing s = .next t) : Effect s .sFetch t := by
  unfold fetchOutgoing at h
  split at h
  next => cases h
  next => cases h; exact .fetchedNull hsvc
  next p q hq => cases h; exact .fetched p q hsvc hq

theorem postResult_effect (hsvc : s.svcSt = .sPost) (h : postResult s = .next t) : Effect s .sPost t := by
  unfold postResult at h
  split at h
  next => cases h; exact .postedNothing hsvc
  next =>
    split at h
    next => cases h
    next hnone =>
      cases h
      obtain ⟨heq, -⟩ | ⟨-, -, hfull⟩ | ⟨heq, -⟩ | ⟨-, -, -, heq⟩ := qEnqueue_cases s.cfg s.rxq s.rxb s.draws
      · rw [heq] at hnone; cases hnone
      · exact .postOverflowed hsvc hfull
      · rw [heq] at hnone; cases hnone
      · rw [heq] at hnone; cases hnone
    next q hq => cases h; exact .posted q hsvc hq

theorem bodyExchange_effect (hsvc : s.svcSt = .sBody) (h : bodyExchange s = .next t) : Effect s .sBody t := by
  by_cases hk : s.k.toNat < s.mb.toNat ∧ s.mb.toNat ≤ s.cfg.maxLen
  · rw [bodyExchange_eq s rfl hk.1 hk.2] at h
    cases h
    exact .bodyTaken _ hsvc hk.1 hk.2
  · rw [bodyExchange, if_neg hk] at h
    cases h

theorem execQEnqueue_effect {q : QueueName} {st len : Byte} {payload : List Byte}
    (h : execQEnqueue q st len payload s = .next t) : Effect s (.qEnqueue q st len payload) t := by
  unfold execQEnqueue at h
  obtain ⟨heq, -⟩ | ⟨heq, -, hfull⟩ | ⟨heq, -⟩ | ⟨-, -, -, heq⟩ :=
    qEnqueue_cases s.cfg (s.queue q) (Packet.ofBytes st len payload) s.draws <;> rw [heq] at h <;> cases h
  · exact .enqueueFull st len payload hfull
  · exact .enqueued _ heq

theorem execQDequeue_effect {q : QueueName} {dst : Option PacketReg} (h : execQDequeue q dst s = .next t) :
    Effect s (.qDequeue q dst) t := by
  unfold execQDequeue at h
  obtain ⟨heq, hempty⟩ | ⟨heq, -⟩ | ⟨heq, -⟩ := qDequeue_cases s.cfg (s.queue q) s.draws <;> rw [heq] at h
  · cases h
    exact .dequeueEmpty dst hempty
  · cases h
  · cases dst <;> cases h
    · exact .discarded _ _ heq
    · exact .dequeued _ _ _ heq

theorem execQPeek_effect {q : QueueName} {dst : PacketReg} (h : execQPeek q dst s = .next t) :
    Effect s (.qPeek q dst) t := by
  unfold execQPeek at h
  obtain ⟨heq, hempty⟩ | ⟨heq, -⟩ | ⟨heq, -⟩ := qPeek_cases s.cfg (s.queue q) s.draws <;> rw [heq] at h <;> cases h
  · exact .peekEmpty dst hempty
  · exact .peekedTo dst _ heq

/-- Every operation that goes on has one of these effects. -/
theorem exec_effect (h : exec i s = .next t) : Effect s i t := by
  cases i with
  | init | send | peekEvent | getEvent | txqEmpty | txqFull | rxqEmpty | rxqFull | flush | debugSet | illegal =>
    exact hostCommand_effect rfl h
  | qIsEmpty q => cases h; exact .testedEmpty q
  | qIsFull q => cases h; exact .testedFull q
  | qInit q => cases h; exact .emptied q
  | qEnqueue => exact execQEnqueue_effect h
  | qDequeue => exact execQDequeue_effect h
  | qPeek => exact execQPeek_effect h
  | qFlush => cases h; exact .bothEmptied
  | sStart => rw [exec, execSStart] at h; obtain ⟨hsvc, hb⟩ := svcStep_eq_next h; cases hb; exact .requested hsvc
  | sFetch => rw [exec, execSFetch] at h; obtain ⟨hsvc, hb⟩ := svcStep_eq_next h; exact fetchOutgoing_effect hsvc hb
  | sHdr0 => rw [exec, execSHdr0] at h; obtain ⟨hsvc, hb⟩ := svcStep_eq_next h; cases hb; exact .headerSent hsvc
  | sHdr1 => rw [exec, execSHdr1] at h; obtain ⟨hsvc, hb⟩ := svcStep_eq_next h; cases hb; exact .headerTaken _ hsvc
  | sBody => rw [exec, execSBody] at h; obtain ⟨hsvc, hb⟩ := svcStep_eq_next h; exact bodyExchange_effect hsvc hb
  | sEnd => rw [exec, execSEnd] at h; obtain ⟨hsvc, hb⟩ := svcStep_eq_next h; cases hb; exact .released hsvc
  | sRearm => rw [exec, execSRearm] at h; obtain ⟨hsvc, hb⟩ := svcStep_eq_next h; cases hb; exact .rearmed hsvc
  | svcStart =>
    rw [exec, execSvcStart] at h
    split at h
    next hs => cases h; exact .started hs
    next => cases h; exact .startRefused
  | sEntry =>
    rw [exec, execSEntry] at h
    obtain ⟨hsvc, hb⟩ := svcStep_eq_next h
    split at hb
    next hmode => cases hb; exact .entered hsvc hmode
    next => cases hb
  | sPost => rw [exec, execSPost] at h; obtain ⟨hsvc, hb⟩ := svcStep_eq_next h; exact postResult_effect hsvc hb
  | sExit => rw [exec, execSExit] at h; obtain ⟨hsvc, hb⟩ := svcStep_eq_next h; cases hb; exact .returned hsvc
  | pollCheck =>
    rw [exec, execPollCheck] at h
    split at h
    next hs =>
      cases h
      obtain ⟨reqn, svcSt, hpolled, heq⟩ := pollCheck_polled s
      rw [heq]
      exact .polledAlone hs hpolled
    next => cases h; exact .pollRefused
  | devRdyn level => cases h; exact .readyDriven level
  | maskCheck => cases h; exact .maskChecked
  | unmaskCheck ok wasFull => cases h; exact .unmaskChecked ok wasFull
  | rst => cases h; exact .hardReset
  | fatal cause => cases h; exact .fatalRaised cause

end Sys2Proof.Machine
end

section
/-! PROOFS. Which operations write what (R31 to R45, R75, R161 to R166, R216): each claim is read from `Effect`, the next states
of every operation. -/

namespace Sys2Proof.Machine

variable {s t : State} {i : Instr}

/-- Settles O51: the operations named write, and no other effect touches one of these bits. -/
theorem statusWriters : Obligations.StatusWriters := by
  unfold Obligations.StatusWriters
  intro i s t h
  cases exec_effect h with
  | linked | hardReset => simp [initLink, Machine.hardReset]
  | readyDriven level => cases level <;> simp [edgeLatch]
  | _ => simp +contextual

/-- R146: where the poll changes REQN it asserts it. -/
theorem State.Polled.reqn_ne {reqn : Bool} {svcSt : SvcState} (h : s.Polled reqn svcSt) (hne : reqn ≠ s.reqn) :
    qIsFull s.cfg s.rxq = false ∧ s.rdyn = true ∧ qIsEmpty s.txq = false ∧ reqn = false := by
  obtain ⟨hfull, hempty, hrequest, hlow⟩ := h
  cases hf : qIsFull s.cfg s.rxq with
  | true => exact absurd (hfull hf).1 hne
  | false =>
    cases hr : s.rdyn with
    | false => exact absurd (hlow hf hr).1 hne
    | true =>
      by_cases he : s.txq.head = s.txq.tail
      · exact absurd (hempty hf hr he).1 hne
      · exact ⟨rfl, rfl, by simpa [qIsEmpty] using he, (hrequest hf hr he).1⟩

/-- Settles O52: S_START, S_END, S_REARM, the poll, SEND's s2, INIT and reset; no other effect touches the line. -/
theorem requestLineMap : Obligations.RequestLineMap := by
  unfold Obligations.RequestLineMap
  intro i s t h hne
  cases exec_effect h with
  | requested | released | linked | hardReset | sendAsserted => simp_all [initLink, Machine.hardReset]
  | rearmed =>
    right; right; left
    simp_all
  | polledFirst hi _ _ hmode hpolled =>
    obtain ⟨hroom, hhigh, hpending, hreqn⟩ := hpolled.reqn_ne hne
    right; right; right; left
    exact ⟨.inr (Instr.polls_iff.mp hi), hmode, hroom, hhigh, hpending, hreqn⟩
  | polledAlone hs hpolled =>
    obtain ⟨hroom, hhigh, hpending, hreqn⟩ := hpolled.reqn_ne hne
    obtain ⟨-, -, -, hmode, -⟩ := pollEnabled_iff.mp hs
    right; right; right; left
    exact ⟨.inl rfl, hmode, hroom, hhigh, hpending, hreqn⟩
  | _ => simp at hne

/-- Settles O53: the two checks, INIT and reset; no other effect touches the mask. -/
theorem maskWriters : Obligations.MaskWriters := by
  unfold Obligations.MaskWriters
  intro i s t h hne
  cases exec_effect h with
  | linked | hardReset => simp [initLink, Machine.hardReset]
  | posted | maskChecked =>
    left
    simp_all
  | got | unmaskChecked =>
    right
    simp_all
  | _ => simp at hne

/-- Settles O54: each queue and register is written by the effects of the operations named. -/
theorem queueWriters : Obligations.QueueWriters := by
  unfold Obligations.QueueWriters
  intro i s t h
  cases exec_effect h with
  | linked | hardReset => simp [initLink, Machine.hardReset]
  | emptied q => cases q <;> simp
  | @enqueued q => cases q <;> simp
  | @discarded q => cases q <;> simp
  | @dequeued q dst => cases q <;> cases dst <;> simp
  | peekedTo dst => cases dst <;> simp
  | _ => simp

end Sys2Proof.Machine
end

section
/-! PROOFS. The diagnostic toggle (R43, R190): no operation but DEBUG_SET reads DEBUG_EN or the records for anything else. -/

namespace Sys2Proof.Machine

variable {s t : State}

/-- `s` with another toggle and other records. -/
def withDebug (enable : Bool) (records : List DiagRecord) (s : State) : State :=
  { s with debugEn := enable, diag := records }

/-- Two results of one kind that differ at most in the toggle and the records. -/
def AgreeButDebug (a b : Result) : Prop :=
  match a, b with
  | .next t, .next u => u = { t with debugEn := u.debugEn, diag := u.diag }
  | .fault f, .fault g => f = g
  | .refused r, .refused r' => r = r'
  | _, _ => False

/-- Results chosen by one condition agree where both choices do. -/
theorem agreeButDebug_ite {c : Prop} [Decidable c] {a b a' b' : Result} (ha : AgreeButDebug a a')
    (hb : AgreeButDebug b b') : AgreeButDebug (if c then a else b) (if c then a' else b') := by
  split
  · exact ha
  · exact hb

section
variable {enable : Bool} {records : List DiagRecord} {i : Instr}

/-! ### The shared operations -/

theorem maskCheck_withDebug (enable : Bool) (records : List DiagRecord) (s : State) :
    maskCheck (withDebug enable records s) = withDebug enable records (maskCheck s) := by
  unfold maskCheck
  rw [apply_ite (withDebug enable records)]
  rfl

theorem unmaskCheck_withDebug (enable : Bool) (records : List DiagRecord) (ok wasFull : Bool) (s : State) :
    unmaskCheck ok wasFull (withDebug enable records s) = withDebug enable records (unmaskCheck ok wasFull s) := by
  unfold unmaskCheck
  rw [apply_ite (withDebug enable records)]
  rfl

theorem pollCheck_withDebug (enable : Bool) (records : List DiagRecord) (s : State) :
    pollCheck (withDebug enable records s) = withDebug enable records (pollCheck s) := by
  unfold pollCheck
  rw [apply_ite (withDebug enable records), apply_ite (withDebug enable records), apply_ite (withDebug enable records)]
  rfl

/-- A step of the service sequence agrees where its body does. -/
theorem svcStep_agree {st : SvcState} {body : State → Result}
    (h : AgreeButDebug (body s) (body (withDebug enable records s))) :
    AgreeButDebug (svcStep st body s) (svcStep st body (withDebug enable records s)) :=
  agreeButDebug_ite h rfl

/-- A host command agrees where its micro-steps do. -/
theorem hostMicro_agree {needsInit : Bool} {micro : Nat → State → Result}
    (h : ∀ n, AgreeButDebug (micro n s) (micro n (withDebug enable records s))) :
    AgreeButDebug (hostMicro i needsInit micro s) (hostMicro i needsInit micro (withDebug enable records s)) := by
  refine agreeButDebug_ite ?_ rfl
  have hcmd : (withDebug enable records s).hcmd = s.hcmd := rfl
  rw [hcmd]
  cases s.hcmd with
  | none => exact agreeButDebug_ite rfl (h 0)
  | some hc => exact h hc.step

theorem oneMicroStep_agree {body : State → State}
    (h : AgreeButDebug (.next (body s)) (.next (body (withDebug enable records s)))) (n : Nat) :
    AgreeButDebug (oneMicroStep body n s) (oneMicroStep body n (withDebug enable records s)) := by
  cases n with
  | zero => exact h
  | succ n => rfl

theorem pollThen_agree {body : State → Result}
    (h : AgreeButDebug (body s) (body (withDebug enable records s))) (n : Nat) :
    AgreeButDebug (pollThen i body n s) (pollThen i body n (withDebug enable records s)) := by
  match n with
  | 0 =>
    refine agreeButDebug_ite ?_ h
    rw [pollFirst, pollFirst, pollCheck_withDebug]
    rfl
  | 1 => exact h
  | n + 2 => rfl

/-! ### The micro-steps that depend on a queue -/

theorem sendEnqueue_agree (payload : List Byte) :
    AgreeButDebug (sendEnqueue payload s) (sendEnqueue payload (withDebug enable records s)) := by
  refine agreeButDebug_ite rfl ?_
  dsimp only [withDebug]
  generalize qEnqueue _ _ _ _ = answer
  match answer with
  | .error _ | .ok none | .ok (some _) => rfl

theorem sendAssert_agree : AgreeButDebug (sendAssert s) (sendAssert (withDebug enable records s)) := by
  unfold sendAssert
  dsimp only [withDebug]
  match s.hcmd with
  | none | some ⟨_, _, false⟩ | some ⟨_, _, true⟩ => rfl

theorem peekHead_agree : AgreeButDebug (peekHead s) (peekHead (withDebug enable records s)) := by
  unfold peekHead
  dsimp only [withDebug]
  match qPeek s.cfg s.rxq s.draws with
  | .error _ | .ok none | .ok (some _) => rfl

theorem getHead_agree : AgreeButDebug (getHead s) (getHead (withDebug enable records s)) := by
  unfold getHead
  have hnone := unmaskCheck_withDebug enable records false (qIsFull s.cfg s.rxq) s
  have hsome (q : Queue) := unmaskCheck_withDebug enable records true (qIsFull s.cfg s.rxq) (fresh { s with rxq := q })
  dsimp only [withDebug, fresh] at hnone hsome ⊢
  match qDequeue s.cfg s.rxq s.draws with
  | .error _ => rfl
  | .ok none =>
    dsimp only
    rw [hnone]
    rfl
  | .ok (some (p, q)) =>
    dsimp only
    rw [hsome]
    rfl

theorem fetchOutgoing_agree : AgreeButDebug (fetchOutgoing s) (fetchOutgoing (withDebug enable records s)) := by
  unfold fetchOutgoing
  dsimp only [withDebug]
  match qDequeue s.cfg s.txq s.draws with
  | .error _ | .ok none | .ok (some _) => rfl

theorem postResult_agree : AgreeButDebug (postResult s) (postResult (withDebug enable records s)) := by
  refine agreeButDebug_ite rfl ?_
  have hmask (q : Queue) := maskCheck_withDebug enable records (fresh { s with rxq := q })
  dsimp only [withDebug, fresh] at hmask ⊢
  match qEnqueue s.cfg s.rxq s.rxb s.draws with
  | .error _ | .ok none => rfl
  | .ok (some q) =>
    dsimp only
    rw [hmask]
    rfl

/-! ### Every operation -/

/-- Each micro-step of each host command but DEBUG_SET. -/
theorem hostMicros_agree (hi : ∀ e, i ≠ .debugSet e) (n : Nat) :
    AgreeButDebug (hostMicros i n s) (hostMicros i n (withDebug enable records s)) := by
  cases i with
  | debugSet e => exact absurd rfl (hi e)
  | send payload =>
    match n with
    | 0 => exact sendEnqueue_agree payload
    | 1 => exact sendAssert_agree
    | n + 2 => rfl
  | peekEvent => exact pollThen_agree peekHead_agree n
  | getEvent => exact pollThen_agree getHead_agree n
  | init | txqEmpty | txqFull | rxqEmpty | rxqFull | flush | illegal =>
    apply oneMicroStep_agree
    rfl
  | _ => rfl

/-- Each queue primitive as an operation of its own. -/
theorem execQEnqueue_agree (q : QueueName) (st len : Byte) (payload : List Byte) :
    AgreeButDebug (execQEnqueue q st len payload s) (execQEnqueue q st len payload (withDebug enable records s)) := by
  cases q <;> dsimp only [execQEnqueue, withDebug, State.queue] <;> generalize qEnqueue _ _ _ _ = answer <;>
    match answer with
    | .error _ | .ok none | .ok (some _) => rfl

theorem execQDequeue_agree (q : QueueName) (dst : Option PacketReg) :
    AgreeButDebug (execQDequeue q dst s) (execQDequeue q dst (withDebug enable records s)) := by
  cases q <;> dsimp only [execQDequeue, withDebug, State.queue] <;> generalize qDequeue _ _ _ = answer <;>
    match answer, dst with
    | .error _, _ | .ok none, _ | .ok (some _), none | .ok (some _), some .txb | .ok (some _), some .rxb
    | .ok (some _), some .out => rfl

theorem execQPeek_agree (q : QueueName) (dst : PacketReg) :
    AgreeButDebug (execQPeek q dst s) (execQPeek q dst (withDebug enable records s)) := by
  cases q <;> dsimp only [execQPeek, withDebug, State.queue] <;> generalize qPeek _ _ _ = answer <;>
    match answer, dst with
    | .error _, _ | .ok none, _ | .ok (some _), .txb | .ok (some _), .rxb | .ok (some _), .out => rfl

theorem exec_agree (hi : ∀ e, i ≠ .debugSet e) :
    AgreeButDebug (exec i s) (exec i (withDebug enable records s)) := by
  cases i with
  | init | send | peekEvent | getEvent | txqEmpty | txqFull | rxqEmpty | rxqFull | flush | debugSet | illegal =>
    rw [exec_hostCommand rfl, exec_hostCommand rfl]
    exact hostMicro_agree (hostMicros_agree hi)
  | qIsEmpty q | qIsFull q | qInit q => cases q <;> rfl
  | qEnqueue q st len payload => exact execQEnqueue_agree q st len payload
  | qDequeue q dst => exact execQDequeue_agree q dst
  | qPeek q dst => exact execQPeek_agree q dst
  | sStart | sHdr0 | sHdr1 | sEnd | sRearm | sExit =>
    apply svcStep_agree
    rfl
  | sFetch => exact svcStep_agree fetchOutgoing_agree
  | sBody | sEntry =>
    apply svcStep_agree
    exact agreeButDebug_ite rfl rfl
  | sPost => exact svcStep_agree postResult_agree
  | svcStart => exact agreeButDebug_ite rfl rfl
  | pollCheck =>
    refine agreeButDebug_ite ?_ rfl
    rw [pollCheck_withDebug]
    rfl
  | maskCheck =>
    rw [exec_maskCheck, exec_maskCheck, maskCheck_withDebug]
    rfl
  | unmaskCheck ok wasFull =>
    rw [exec_unmaskCheck, exec_unmaskCheck, unmaskCheck_withDebug]
    rfl
  | qFlush | devRdyn | rst | fatal => rfl

end

/-- Settles O55: the second state is `withDebug` of the first. -/
theorem debugHasNoOtherEffect : Obligations.DebugHasNoOtherEffect := by
  unfold Obligations.DebugHasNoOtherEffect
  intro i s enable records hi
  exact exec_agree hi

end Sys2Proof.Machine
end

section
/-! PROOFS. The queue primitives (R49, R100 to R108): the queue after an enqueue and after a dequeue, its count, its invariant and
its contents as a list, and the rest of the family `40_queue.md`. -/

namespace Sys2Proof.Machine

variable {c : Config} {q q' : Queue} {p : Packet} {d : Nat}

/-! ### What each primitive answers -/

/-- R103: the queue after a successful enqueue. -/
def Queue.appended (c : Config) (q : Queue) (p : Packet) (d : Nat) : Queue :=
  ⟨Memory.writeList q.mem (slotAddr c q.tail 0) (0 :: p.length :: Packet.body p d), q.head, nextIndex c q.tail⟩

/-- R104: the queue after a successful dequeue. -/
def Queue.dropped (c : Config) (q : Queue) : Queue := { q with head := nextIndex c q.head }

@[simp] theorem appended_head : (q.appended c p d).head = q.head := rfl

@[simp] theorem appended_tail : (q.appended c p d).tail = nextIndex c q.tail := rfl

@[simp] theorem dropped_head : (q.dropped c).head = nextIndex c q.head := rfl

@[simp] theorem dropped_tail : (q.dropped c).tail = q.tail := rfl

theorem qEnqueue_of_room (hlen : p.length.toNat ≤ c.maxLen) (hroom : qIsFull c q = false) (htail : q.tail < c.qdepth) :
    qEnqueue c q p d = .ok (some (q.appended c p d)) := by
  simp [qEnqueue, Nat.not_lt.mpr hlen, hroom, htail, Queue.appended]

theorem qEnqueue_of_full (hlen : p.length.toNat ≤ c.maxLen) (hfull : qIsFull c q = true) :
    qEnqueue c q p d = .ok none := by
  simp [qEnqueue, Nat.not_lt.mpr hlen, hfull]

theorem qEnqueue_of_overlong (hlen : c.maxLen < p.length.toNat) : qEnqueue c q p d = .error .qOverlen := by
  simp [qEnqueue, hlen]

theorem qEnqueue_of_tail_outside (hlen : p.length.toNat ≤ c.maxLen) (hroom : qIsFull c q = false)
    (htail : c.qdepth ≤ q.tail) : qEnqueue c q p d = .error .slotRange := by
  simp [qEnqueue, Nat.not_lt.mpr hlen, hroom, Nat.not_lt.mpr htail]

/-- R103: a successful enqueue had a packet within MAX_LEN and room, and gives `appended`. -/
theorem qEnqueue_eq_some (h : qEnqueue c q p d = .ok (some q')) :
    p.length.toNat ≤ c.maxLen ∧ qIsFull c q = false ∧ q' = q.appended c p d := by
  obtain ⟨heq, -⟩ | ⟨heq, -⟩ | ⟨heq, -⟩ | ⟨hlen, hroom, -, heq⟩ := qEnqueue_cases c q p d <;> rw [heq] at h <;> cases h
  exact ⟨hlen, hroom, rfl⟩

theorem qPeek_of_empty (d : Nat) (h : q.head = q.tail) : qPeek c q d = .ok none := by
  simp [qPeek, qIsEmpty_iff.mpr h]

theorem qPeek_of_nonempty (d : Nat) (h : q.head ≠ q.tail) (hhead : q.head < c.qdepth) :
    qPeek c q d = .ok (some (headPacket c q d)) := by
  simp [qPeek, mt qIsEmpty_iff.mp h, hhead]

theorem qPeek_of_head_outside (d : Nat) (h : q.head ≠ q.tail) (hhead : c.qdepth ≤ q.head) :
    qPeek c q d = .error .slotRange := by
  simp [qPeek, mt qIsEmpty_iff.mp h, Nat.not_lt.mpr hhead]

theorem qDequeue_of_head_outside (d : Nat) (h : q.head ≠ q.tail) (hhead : c.qdepth ≤ q.head) :
    qDequeue c q d = .error .slotRange := by
  rw [qDequeue, qPeek_of_head_outside d h hhead]

/-- R104: a successful dequeue had an entry, and gives the head packet and `dropped`. -/
theorem qDequeue_eq_some (h : qDequeue c q d = .ok (some (p, q'))) :
    q.head ≠ q.tail ∧ p = headPacket c q d ∧ q' = q.dropped c := by
  obtain ⟨heq, -⟩ | ⟨heq, -⟩ | ⟨heq, hne, -⟩ := qDequeue_cases c q d <;> rw [heq] at h <;> cases h
  exact ⟨fun he => by simp [qIsEmpty_iff.mpr he] at hne, rfl, rfl⟩

/-! ### Slots after an enqueue -/

theorem slotByte_appended (hlen : p.length.toNat ≤ c.maxLen) (i : Nat) {k : Nat} (hk : k < 2 + c.maxLen) :
    (q.appended c p d).slotByte c i k =
      if i = q.tail ∧ k < 2 + p.length.toNat then (0 :: p.length :: Packet.body p d)[k]? else q.slotByte c i k := by
  have hbytes : (0 :: p.length :: Packet.body p d).length = 2 + p.length.toNat := by simp; omega
  rw [Queue.slotByte, Queue.appended, slotByte_writeList hk (by omega), hbytes]
  rfl

/-- R65(a), R103: an enqueue stores the packet at tail. -/
theorem appended_stored (hlen : p.length.toNat ≤ c.maxLen) {byte : Nat → Option Byte}
    (hbyte : ∀ j < p.length.toNat, (Packet.body p d)[j]? = byte j) :
    q.Stored c (q.appended c p d) p.length byte := by
  refine ⟨rfl, rfl, ?_, ?_, fun j hj => ?_, fun a ha => ?_⟩
  · rw [slotByte_appended hlen _ (by omega), if_pos ⟨rfl, by omega⟩]
    rfl
  · rw [slotByte_appended hlen _ (by omega), if_pos ⟨rfl, by omega⟩]
    rfl
  · rw [slotByte_appended hlen _ (by omega), if_pos ⟨rfl, by omega⟩, ← hbyte j hj, Nat.add_comm]
    rfl
  · rw [Queue.appended, Memory.read_writeList, if_neg]
    unfold slotAddr at *
    simp
    omega

/-- R49: an enqueue fills the tail slot. -/
theorem holds_appended_tail (hlen : p.length.toNat ≤ c.maxLen) : (q.appended c p d).Holds c q.tail := by
  obtain ⟨-, -, hstatus, hlength, hbytes, -⟩ := appended_stored (q := q) (d := d) hlen fun _ _ => rfl
  refine ⟨hstatus, p.length, hlength, hlen, fun j hj => ?_⟩
  rw [hbytes j hj, List.getElem?_eq_getElem (by simpa using hj)]
  rfl

/-- An enqueue leaves every other slot. -/
theorem slotByte_appended_other (hlen : p.length.toNat ≤ c.maxLen) {i k : Nat} (hi : i ≠ q.tail)
    (hk : k < 2 + c.maxLen) : (q.appended c p d).slotByte c i k = q.slotByte c i k := by
  rw [slotByte_appended hlen i hk, if_neg fun h => hi h.1]

/-- A slot with the same bytes holds a packet as before. -/
theorem holds_of_slotByte_eq {i : Nat} (h : ∀ k < 2 + c.maxLen, q'.slotByte c i k = q.slotByte c i k)
    (hq : q.Holds c i) : q'.Holds c i := by
  obtain ⟨hstatus, length, hlength, hbound, hbytes⟩ := hq
  refine ⟨?_, length, ?_, hbound, fun j hj => ?_⟩
  · rwa [h 0 (by omega)]
  · rwa [h 1 (by omega)]
  · rw [h (2 + j) (by omega)]
    exact hbytes j hj

/-! ### Count and invariant -/

/-- R107: an enqueue counts one more. -/
theorem count_appended (hq : q.Wf c) (hroom : qIsFull c q = false) :
    (q.appended c p d).count c = q.count c + 1 := by
  obtain ⟨hhead, htail, -, -⟩ := hq
  have hfull : nextIndex c q.tail ≠ q.head := fun h => by simp [qIsFull_iff.mpr h] at hroom
  have hnext := nextIndex_lt (c := c) (by omega) q.tail
  rw [count_eq (q := q.appended c p d) hhead hnext, count_eq hhead htail]
  simp only [appended_head, appended_tail, nextIndex_eq htail] at hfull hnext ⊢
  split_ifs at * <;> omega

/-- R107: a dequeue counts one less. -/
theorem count_dropped (hq : q.Wf c) (hne : q.head ≠ q.tail) : (q.dropped c).count c + 1 = q.count c := by
  obtain ⟨hhead, htail, -, -⟩ := hq
  have hnext := nextIndex_lt (c := c) (by omega) q.head
  rw [count_eq (q := q.dropped c) hnext htail, count_eq hhead htail]
  simp only [dropped_head, dropped_tail, nextIndex_eq hhead] at hnext ⊢
  split_ifs at * <;> omega

/-- R107: an emptied queue counts 0. -/
@[simp] theorem count_qInit (c : Config) (q : Queue) : (qInit c q).count c = 0 := by
  simp [Queue.count]

theorem slotOf_dropped (c : Config) (q : Queue) (n : Nat) : (q.dropped c).slotOf c n = q.slotOf c (n + 1) := by
  simp only [Queue.slotOf, Queue.dropped, nextIndex, Nat.mod_add_mod]
  congr 1
  omega

/-- R49: an enqueue keeps a queue well-formed. -/
theorem appended_wf (hq : q.Wf c) (hlen : p.length.toNat ≤ c.maxLen) (hroom : qIsFull c q = false) :
    (q.appended c p d).Wf c where
  headInRange := hq.headInRange
  tailInRange := nextIndex_lt (Nat.zero_lt_of_lt hq.tailInRange) q.tail
  canonical := Memory.wf_writeList _ _ hq.canonical
  occupied n hn := by
    rw [count_appended hq hroom] at hn
    change (q.appended c p d).Holds c (q.slotOf c n)
    obtain hn | rfl := Nat.lt_succ_iff_lt_or_eq.mp hn
    · have hi := slotOf_ne_tail hq.headInRange hq.tailInRange hn
      exact holds_of_slotByte_eq (fun k hk => slotByte_appended_other hlen hi hk) (hq.occupied n hn)
    · rw [slotOf_count hq.headInRange hq.tailInRange]
      exact holds_appended_tail hlen

/-- R49: a dequeue keeps a queue well-formed. -/
theorem dropped_wf (hq : q.Wf c) (hne : q.head ≠ q.tail) : (q.dropped c).Wf c where
  headInRange := nextIndex_lt (Nat.zero_lt_of_lt hq.headInRange) q.head
  tailInRange := hq.tailInRange
  canonical := hq.canonical
  occupied n hn := by
    have hcount := count_dropped hq hne
    rw [slotOf_dropped]
    exact hq.occupied (n + 1) (by omega)

/-- R102: an emptied queue is well-formed. -/
theorem qInit_wf (hc : 0 < c.qdepth) (hmem : Memory.wf q.mem = true) : (qInit c q).Wf c where
  headInRange := hc
  tailInRange := hc
  canonical := wf_zeroLengths c c.qdepth hmem
  occupied n hn := by simp at hn

/-- R49, R104: the head slot of a queue that is not empty holds a packet. -/
theorem holds_head (hq : q.Wf c) (hne : q.head ≠ q.tail) : q.Holds c q.head := by
  have hcount := count_dropped hq hne
  rw [← slotOf_zero hq.headInRange]
  exact hq.occupied 0 (by omega)

/-- R101: a queue that has lost an entry is not full. -/
theorem dropped_room (hq : q.Wf c) (hne : q.head ≠ q.tail) : qIsFull c (q.dropped c) = false := by
  have hcount := count_dropped hq hne
  have hlt := count_lt (q := q) hq.headInRange
  have hq' := dropped_wf hq hne
  rw [Bool.eq_false_iff, ne_eq, isFull_iff_count hq'.headInRange hq'.tailInRange]
  omega

/-- R102: an emptied queue is not full. -/
theorem qInit_room (hc : c.Wf) (q : Queue) : qIsFull c (qInit c q) = false := by
  obtain ⟨hdepth, -⟩ := hc
  have hnext : nextIndex c 0 = 1 := Nat.mod_eq_of_lt (by omega)
  simp [qIsFull, hnext]

/-! ### The queue as a list -/

/-- The payload of an entry, from the length byte of its slot. -/
theorem entry_eq {n : Nat} {length : Byte} (h : q.slotByte c (q.slotOf c n) 1 = some length) :
    q.entry c n = (List.range length.toNat).map fun j => q.slotByte c (q.slotOf c n) (2 + j) := by
  simp [Queue.entry, h]

/-- R108: an enqueue keeps the entries and adds its packet as the newest. -/
theorem contents_appended (hq : q.Wf c) (hlen : p.length.toNat ≤ c.maxLen) (hroom : qIsFull c q = false) :
    (q.appended c p d).contents c = q.contents c ++ [(Packet.body p d).map some] := by
  have hold : ∀ n < q.count c, (q.appended c p d).entry c n = q.entry c n := by
    intro n hn
    obtain ⟨-, length, hlength, hbound, -⟩ := hq.occupied n hn
    have hslot {k : Nat} (hk : k < 2 + c.maxLen) :=
      slotByte_appended_other (d := d) hlen (slotOf_ne_tail hq.headInRange hq.tailInRange hn) hk
    have hlength' : (q.appended c p d).slotByte c (q.slotOf c n) 1 = some length := by rwa [hslot (by omega)]
    rw [entry_eq hlength, entry_eq (q := q.appended c p d) hlength']
    refine List.map_congr_left fun j hj => hslot ?_
    have := List.mem_range.mp hj
    omega
  have hnew : (q.appended c p d).entry c (q.count c) = (Packet.body p d).map some := by
    have hslot : (q.appended c p d).slotOf c (q.count c) = q.tail := slotOf_count hq.headInRange hq.tailInRange
    obtain ⟨-, -, -, hlength, hbytes, -⟩ := appended_stored (q := q) (d := d) hlen fun _ _ => rfl
    rw [entry_eq (hslot.symm ▸ hlength), hslot]
    refine List.ext_getElem (by simp) fun j hj _ => ?_
    have hj' : j < p.length.toNat := by simpa using hj
    simp [hbytes j hj', hj']
  rw [Queue.contents, count_appended hq hroom, List.range_succ, List.map_append, List.map_singleton, hnew, Queue.contents]
  exact congrArg (· ++ _) (List.map_congr_left fun n hn => hold n (List.mem_range.mp hn))

/-- R108: a dequeue takes the oldest entry and keeps the others. -/
theorem contents_dropped (hq : q.Wf c) (hne : q.head ≠ q.tail) :
    q.contents c = q.entry c 0 :: (q.dropped c).contents c := by
  have hentry : ∀ n, (q.dropped c).entry c n = q.entry c (n + 1) := by
    intro n
    simp only [Queue.entry, slotOf_dropped]
    rfl
  rw [Queue.contents, ← count_dropped hq hne, List.range_succ_eq_map, List.map_cons, List.map_map, Queue.contents]
  exact congrArg _ (List.map_congr_left fun n _ => (hentry n).symm)

end Sys2Proof.Machine
end

section
/-! PROOFS. The queue primitives as operations of their own (R100 to R108): what each leaves of the state, and the claims about
them. -/

namespace Sys2Proof.Machine

variable {s t : State} {name : QueueName}

/-! ### Fields that a primitive's state update leaves -/

@[simp] theorem fresh_queue (s : State) (name : QueueName) : (fresh s).queue name = s.queue name := by
  cases name <;> rfl

@[simp] theorem setPacket_queue (s : State) (r : PacketReg) (p : Packet) (name : QueueName) :
    (s.setPacket r p).queue name = s.queue name := by
  cases r <;> cases name <;> rfl

@[simp] theorem queue_withPrimOk (s : State) (ok : Bool) (name : QueueName) :
    ({ s with primOk := ok }.queue name) = s.queue name := by
  cases name <;> rfl

@[simp] theorem setQueue_primOk (s : State) (name : QueueName) (q : Queue) : (s.setQueue name q).primOk = s.primOk := by
  cases name <;> rfl

@[simp] theorem setPacket_primOk (s : State) (r : PacketReg) (p : Packet) : (s.setPacket r p).primOk = s.primOk := by
  cases r <;> rfl

/-! ### One equation for each answer -/

/-- Settles O14: the two tests are `qIsEmpty` and `qIsFull`, which are count 0 and count QDEPTH - 1. -/
theorem occupancyPredicates : Obligations.OccupancyPredicates := by
  unfold Obligations.OccupancyPredicates
  intro q s
  refine ⟨rfl, rfl, fun hc hq ⟨hempty, hfull⟩ => ?_⟩
  rw [isEmpty_iff_count hq.headInRange hq.tailInRange] at hempty
  rw [isFull_iff_count hq.headInRange hq.tailInRange] at hfull
  obtain ⟨hdepth, -⟩ := hc
  omega

theorem exec_qEnqueue (name : QueueName) (st len : Byte) (payload : List Byte) (s : State) :
    exec (.qEnqueue name st len payload) s = execQEnqueue name st len payload s := rfl

/-- R103: with room, the queue named becomes `appended`. -/
theorem exec_qEnqueue_of_room {st len : Byte} {payload : List Byte} (hlen : len.toNat ≤ s.cfg.maxLen)
    (hroom : qIsFull s.cfg (s.queue name) = false) (htail : (s.queue name).tail < s.cfg.qdepth) :
    exec (.qEnqueue name st len payload) s = .next (fresh ({ s with primOk := true }.setQueue name
      ((s.queue name).appended s.cfg (Packet.ofBytes st len payload) s.draws))) := by
  rw [exec_qEnqueue, execQEnqueue, qEnqueue_of_room (p := Packet.ofBytes st len payload) hlen hroom htail]

/-- R104: with an entry, the queue named becomes `dropped`, and its head packet goes to the destination. -/
theorem exec_qDequeue_of_nonempty (dst : Option PacketReg) (hne : (s.queue name).head ≠ (s.queue name).tail)
    (hhead : (s.queue name).head < s.cfg.qdepth) :
    exec (.qDequeue name dst) s = .next
      (let taken := fresh ({ s with primOk := true }.setQueue name ((s.queue name).dropped s.cfg))
       match dst with
       | none => taken
       | some r => taken.setPacket r (headPacket s.cfg (s.queue name) s.draws)) := by
  rw [exec, execQDequeue, qDequeue_of_nonempty s.draws hne hhead]
  cases dst <;> rfl

/-- Settles O17: the queue named becomes `appended`, which `appended_stored` describes. -/
theorem qEnqueueStoresPacket : Obligations.QEnqueueStoresPacket := by
  unfold Obligations.QEnqueueStoresPacket
  intro q st len payload s hpayload hlen hroom htail
  refine ⟨_, exec_qEnqueue_of_room hlen hroom htail, ?_, ?_⟩
  · rw [fresh_queue, queue_setQueue_same]
    refine appended_stored hlen fun j _ => ?_
    rw [body_ofBytes st len payload s.draws hpayload]
  · cases q <;> rfl

/-- Settles O18: the two answers of a Q_ENQUEUE that stores nothing. -/
theorem qEnqueueFailures : Obligations.QEnqueueFailures := by
  unfold Obligations.QEnqueueFailures
  intro q st len payload s
  rw [exec_qEnqueue, execQEnqueue]
  refine ⟨fun hlen hfull => ?_, fun hlen => ?_⟩
  · rw [qEnqueue_of_full (p := Packet.ofBytes st len payload) hlen hfull]
  · rw [qEnqueue_of_overlong (p := Packet.ofBytes st len payload) hlen]

/-- Settles O19: the head packet is the packet of the head slot by `headPacket_copied`. -/
theorem qDequeueTakesHead : Obligations.QDequeueTakesHead := by
  unfold Obligations.QDequeueTakesHead
  intro q dst s
  refine ⟨fun hempty => ?_, fun hne hhead hholds =>
    ⟨headPacket s.cfg (s.queue q) s.draws, (fresh s).draws, headPacket_copied s.draws hholds, ?_⟩⟩
  · rw [exec, execQDequeue, qDequeue_of_empty s.draws hempty]
  · rw [exec_qDequeue_of_nonempty dst hne hhead]
    cases q <;> cases dst <;> rfl

/-- Settles O20: as Q_DEQUEUE, without the index. -/
theorem qPeekReadsHead : Obligations.QPeekReadsHead := by
  unfold Obligations.QPeekReadsHead
  intro q dst s
  refine ⟨fun hempty => ?_, fun hne hhead hholds =>
    ⟨headPacket s.cfg (s.queue q) s.draws, (fresh s).draws, headPacket_copied s.draws hholds, ?_⟩⟩
  · rw [exec, execQPeek, qPeek_of_empty s.draws hempty]
  · rw [exec, execQPeek, qPeek_of_nonempty s.draws hne hhead]
    rfl

/-! ### The count and the list -/

/-- R103: a Q_ENQUEUE that goes on answers false, or leaves the queue named `appended`. -/
theorem exec_qEnqueue_eq_next {st len : Byte} {payload : List Byte}
    (h : exec (.qEnqueue name st len payload) s = .next t) :
    t = { s with primOk := false } ∨
      len.toNat ≤ s.cfg.maxLen ∧ qIsFull s.cfg (s.queue name) = false ∧ t.cfg = s.cfg ∧ t.primOk = true ∧
        t.queue name = (s.queue name).appended s.cfg (Packet.ofBytes st len payload) s.draws := by
  cases exec_effect h with
  | enqueueFull => exact .inl rfl
  | enqueued q' heq =>
    obtain ⟨hlen, hroom, rfl⟩ := qEnqueue_eq_some heq
    exact .inr ⟨hlen, hroom, by simp, by simp, by simp⟩
  | waits hi | answered hi | polledFirst hi => cases hi

/-- R104: a Q_DEQUEUE that goes on answers false, or leaves the queue named `dropped`. -/
theorem exec_qDequeue_eq_next {dst : Option PacketReg} (h : exec (.qDequeue name dst) s = .next t) :
    t = { s with primOk := false } ∨
      (s.queue name).head ≠ (s.queue name).tail ∧ t.cfg = s.cfg ∧ t.primOk = true ∧
        t.queue name = (s.queue name).dropped s.cfg := by
  cases exec_effect h with
  | dequeueEmpty => exact .inl rfl
  | discarded p q' heq | dequeued _ p q' heq =>
    obtain ⟨hne, -, rfl⟩ := qDequeue_eq_some heq
    exact .inr ⟨hne, by simp, by simp, by simp⟩
  | waits hi | answered hi | polledFirst hi => cases hi

/-- R105: a Q_PEEK writes no queue. -/
theorem exec_qPeek_eq_next {dst : PacketReg} (h : exec (.qPeek name dst) s = .next t) :
    t.cfg = s.cfg ∧ t.queue name = s.queue name := by
  cases exec_effect h with
  | peekEmpty | peekedTo => simp
  | waits hi | answered hi | polledFirst hi => cases hi

/-- Settles O21: the count of each queue that a primitive can leave. -/
theorem queueCountLaw : Obligations.QueueCountLaw := by
  unfold Obligations.QueueCountLaw
  intro q s t hc hq
  refine ⟨Nat.le_sub_one_of_lt (count_lt hq.headInRange), isEmpty_iff_count hq.headInRange hq.tailInRange,
    isFull_iff_count hq.headInRange hq.tailInRange, fun st len payload h => ?_, fun dst h => ?_, fun dst h => ?_,
    fun h => ?_⟩
  · obtain rfl | ⟨-, hroom, hcfg, hok, hqueue⟩ := exec_qEnqueue_eq_next h
    · simp
    · rw [hcfg, hok, hqueue, count_appended hq hroom, if_pos rfl]
  · obtain rfl | ⟨hne, hcfg, hok, hqueue⟩ := exec_qDequeue_eq_next h
    · simp
    · rw [hcfg, hok, hqueue, if_pos rfl, count_dropped hq hne]
  · obtain ⟨hcfg, hqueue⟩ := exec_qPeek_eq_next h
    rw [hcfg, hqueue]
  · rw [exec_qInit] at h
    cases h
    rw [queue_setQueue_same, setQueue_cfg, count_qInit]

/-- Settles O22: `contents_appended` and `contents_dropped` for the queue named. -/
theorem queueRefinesList : Obligations.QueueRefinesList := by
  unfold Obligations.QueueRefinesList
  intro q s t hc hq
  refine ⟨fun st len payload hpayload h hok => ?_, fun dst h hok => ?_⟩
  · obtain rfl | ⟨hlen, hroom, hcfg, -, hqueue⟩ := exec_qEnqueue_eq_next h
    · cases hok
    · have hcontents := contents_appended (p := Packet.ofBytes st len payload) (d := s.draws) hq hlen hroom
      rw [body_ofBytes st len payload s.draws hpayload] at hcontents
      rw [hcfg, hqueue]
      exact ⟨appended_wf hq hlen hroom, hcontents⟩
  · obtain rfl | ⟨hne, hcfg, -, hqueue⟩ := exec_qDequeue_eq_next h
    · cases hok
    · rw [hcfg, hqueue]
      exact ⟨dropped_wf hq hne, _, contents_dropped hq hne⟩

/-! ### The round trip -/

theorem execAll_append (is js : List Instr) (s : State) :
    execAll (is ++ js) s =
      match execAll is s with
      | .next t => execAll js t
      | .fault f => .fault f
      | .refused r => .refused r := by
  induction is generalizing s with
  | nil => rfl
  | cons i is ih =>
    simp only [List.cons_append, execAll]
    cases exec i s with
    | next t => exact ih t
    | fault | refused => rfl

theorem execAll_cons {i : Instr} (is : List Instr) (h : exec i s = .next t) : execAll (i :: is) s = execAll is t := by
  rw [execAll, h]

/-- Packets that fit into a queue enqueue one after another, and the list grows by their payloads. -/
theorem execAll_enqueues (name : QueueName) (ps : List (Byte × List Byte)) (s : State) (hc : s.cfg.Wf)
    (hq : (s.queue name).Wf s.cfg) (hroom : (s.queue name).count s.cfg + ps.length < s.cfg.qdepth)
    (hps : ∀ p ∈ ps, p.2.length ≤ s.cfg.maxLen) :
    ∃ t, execAll (ps.map fun p => .qEnqueue name p.1 (BitVec.ofNat 8 p.2.length) p.2) s = .next t ∧ t.cfg = s.cfg ∧
      (t.queue name).Wf s.cfg ∧
      (t.queue name).contents s.cfg = (s.queue name).contents s.cfg ++ ps.map fun p => p.2.map some := by
  induction ps generalizing s with
  | nil => exact ⟨s, rfl, rfl, hq, by simp⟩
  | cons p ps ih =>
    obtain ⟨st, payload⟩ := p
    rw [List.length_cons] at hroom
    have hbytes : payload.length ≤ s.cfg.maxLen := hps _ List.mem_cons_self
    have hlen : payload.length = (BitVec.ofNat 8 payload.length).toNat := by
      obtain ⟨-, -, -, hmax⟩ := hc
      rw [BitVec.toNat_ofNat, Nat.mod_eq_of_lt (by omega)]
    have hfits : (BitVec.ofNat 8 payload.length).toNat ≤ s.cfg.maxLen := hlen ▸ hbytes
    have hnotFull : qIsFull s.cfg (s.queue name) = false := by
      rw [Bool.eq_false_iff, ne_eq, isFull_iff_count hq.headInRange hq.tailInRange]
      omega
    have hexec := exec_qEnqueue_of_room (st := st) (payload := payload) hfits hnotFull hq.tailInRange
    have hcontents := contents_appended (p := Packet.ofBytes st (BitVec.ofNat 8 payload.length) payload)
      (d := s.draws) hq hfits hnotFull
    have hcount := count_appended (p := Packet.ofBytes st (BitVec.ofNat 8 payload.length) payload)
      (d := s.draws) hq hnotFull
    rw [body_ofBytes st _ payload s.draws hlen] at hcontents
    obtain ⟨t, ht, hcfg, hwf, hlist⟩ := ih
      (fresh ({ s with primOk := true }.setQueue name
        ((s.queue name).appended s.cfg (Packet.ofBytes st (BitVec.ofNat 8 payload.length) payload) s.draws)))
      (by simpa using hc)
      (by simpa using appended_wf hq hfits hnotFull)
      (by simp only [fresh_queue, fresh_cfg, queue_setQueue_same, setQueue_cfg, hcount]; omega)
      (by simpa using fun p hp => hps p (List.mem_cons_of_mem _ hp))
    simp only [fresh_queue, fresh_cfg, queue_setQueue_same, setQueue_cfg] at hcfg hwf hlist
    refine ⟨t, ?_, hcfg, hwf, ?_⟩
    · rw [List.map_cons, execAll_cons _ hexec, ht]
    · rw [hlist, hcontents]
      simp

/-- R32: the packet has status 0 and, as its payload, the defined bytes of an entry. -/
def Packet.Shows (p : Packet) (entry : List (Option Byte)) : Prop :=
  p.status = 0 ∧ p.length.toNat = entry.length ∧ ∀ j < entry.length, entry[j]? = some (Memory.read p.payload j)

/-- R104: the head packet of a queue that is not empty shows its oldest entry. -/
theorem headPacket_shows {c : Config} {q : Queue} (d : Nat) (hq : q.Wf c) (hne : q.head ≠ q.tail) :
    (headPacket c q d).Shows (q.entry c 0) := by
  have hholds := holds_head hq hne
  obtain ⟨hstatus, hlength, hbytes⟩ := headPacket_copied d hholds
  obtain ⟨hzero, -⟩ := hholds
  have hentry : q.entry c 0 = (List.range (headPacket c q d).length.toNat).map fun j => q.slotByte c q.head (2 + j) := by
    rw [← slotOf_zero hq.headInRange] at hlength ⊢
    exact entry_eq hlength.symm
  refine ⟨?_, by simp [hentry], fun j hj => ?_⟩
  · rw [hzero] at hstatus
    exact Option.some.inj hstatus
  · have hj' : j < (headPacket c q d).length.toNat := by simpa [hentry] using hj
    simp [hentry, hj', hbytes j hj']

/-- The (k + 1)-th of dequeues one after another gives the k-th entry, counted from 0. -/
theorem execAll_dequeues (name : QueueName) (k : Nat) (s : State) (hq : (s.queue name).Wf s.cfg)
    {entry : List (Option Byte)} (hk : ((s.queue name).contents s.cfg)[k]? = some entry) :
    ∃ t, execAll (List.replicate (k + 1) (.qDequeue name (some .out))) s = .next t ∧ t.primOk = true ∧
      t.primOut.Shows entry := by
  have hne : (s.queue name).head ≠ (s.queue name).tail := by
    intro he
    have hcount := (isEmpty_iff_count hq.headInRange hq.tailInRange).mp (qIsEmpty_iff.mpr he)
    simp [Queue.contents, hcount] at hk
  have hexec := exec_qDequeue_of_nonempty (some .out) hne hq.headInRange
  rw [contents_dropped hq hne] at hk
  rw [List.replicate_succ, execAll_cons _ hexec]
  cases k with
  | zero =>
    obtain rfl : (s.queue name).entry s.cfg 0 = entry := by simpa using hk
    exact ⟨_, rfl, by simp, headPacket_shows s.draws hq hne⟩
  | succ k =>
    refine execAll_dequeues name k _ ?_ ?_
    · simpa using dropped_wf hq hne
    · simpa using hk

/-- Settles O23: the enqueues leave the list of payloads, from which the dequeues take the k-th. -/
theorem queueRoundTripFifo : Obligations.QueueRoundTripFifo := by
  unfold Obligations.QueueRoundTripFifo
  intro q s ps hc hq hempty hroom hps k st payload hk
  have hcount : (s.queue q).count s.cfg = 0 :=
    (isEmpty_iff_count hq.headInRange hq.tailInRange).mp (qIsEmpty_iff.mpr hempty)
  obtain ⟨t, ht, hcfg, hwf, hcontents⟩ := execAll_enqueues q ps s hc hq (by omega) hps
  have hentry : ((t.queue q).contents t.cfg)[k]? = some (payload.map some) := by
    rw [hcfg, hcontents]
    simp [Queue.contents, hcount, hk]
  obtain ⟨u, hu, hok, hstatus, hlength, hbytes⟩ := execAll_dequeues q k t (hcfg ▸ hwf) hentry
  rw [List.length_map] at hlength hbytes
  refine ⟨u, ?_, hok, hstatus, ?_, fun j hj => ?_⟩
  · rw [execAll_append, ht]
    exact hu
  · rw [← hlength, BitVec.ofNat_toNat, BitVec.setWidth_eq]
  · simpa [hj, eq_comm] using hbytes j hj

end Sys2Proof.Machine
end

section
/-! PROOFS. The host commands (R180 to R191): acceptance and waiting, the response, each command's micro-steps, and the rest of
the family `44_host_api.md`. -/

namespace Sys2Proof.Machine

variable {s : State} {i : Instr} {c : Config} {q : Queue} {p : Packet}

/-! ### Waiting, refusal and response -/

/-- Settles O50: a command that HOST may not step is not ready. -/
theorem hostCommandWaits : Obligations.HostCommandWaits := by
  unfold Obligations.HostCommandWaits
  intro i s hi h
  have hready : ¬hostReady i s = true := by
    rw [hostReady_iff, hostEnabled_iff]
    rintro ⟨⟨hfatal, hsvc⟩, hsame⟩
    obtain hf | hs | ⟨hc, hcmd, hother⟩ := h
    · simp [hf] at hfatal
    · exact hs hsvc
    · exact hother (hsame hc hcmd)
  rw [exec_hostCommand hi, hostMicro, if_neg hready]

/-- R85: a response of a HOST without a command in progress only goes out. -/
theorem respond_of_no_command (hcmd : s.hcmd = none) (code : Code) (result : Bool) (data : List Byte) :
    respond code result data s = { s with responses := s.responses ++ [⟨respWord code result, data⟩] } := by
  rw [respond, hcmd]

/-- Settles O49: before INIT the acceptance check refuses every command that needs it. -/
theorem notInitRefusal : Obligations.NotInitRefusal := by
  unfold Obligations.NotInitRefusal
  intro i s hi hinit hdebug hillegal hs hbefore
  obtain ⟨hfatal, hsvc, hcmd⟩ := hs
  have hneeds : i.needsInit = true := by
    cases i with
    | init m => exact absurd rfl (hinit m)
    | debugSet e => exact absurd rfl (hdebug e)
    | illegal c ops => exact absurd rfl (hillegal c ops)
    | _ => rfl
  have hready : hostReady i s = true := hostReady_iff.mpr ⟨hostEnabled_iff.mpr ⟨hfatal, hsvc⟩, by simp [hcmd]⟩
  have hrefused : hostMicro i i.needsInit (hostMicros i) s = .next (respond .notInit false [] s) := by
    simp [hostMicro, hready, hcmd, hneeds, hbefore]
  rw [exec_hostCommand hi, hrefused, respond_of_no_command hcmd]
  rfl

/-! ### INIT, FLUSH, DEBUG_SET and the predicates -/

/-- Settles O40: INIT is `initLink`, whose queues are those of `qFlush`. -/
theorem initEstablishesLink : Obligations.InitEstablishesLink := by
  unfold Obligations.InitEstablishesLink
  intro mode s hs
  refine ⟨initLink mode s, exec_first rfl hs nofun, qInit_emptied s.cfg s.txq, qInit_emptied s.cfg s.rxq, ?_⟩
  obtain ⟨-, -, hcmd⟩ := hs
  rw [initLink, respond_of_no_command (by exact hcmd)]
  rfl

/-- Settles O48: FLUSH is `qFlush`, DEBUG_SET one write. -/
theorem flushAndDebugSet : Obligations.FlushAndDebugSet := by
  unfold Obligations.FlushAndDebugSet
  intro enable s hs
  obtain ⟨-, -, hcmd⟩ := id hs
  refine ⟨fun hinit => ⟨respond .done true [] (qFlush s), exec_first rfl hs fun _ => hinit,
    qInit_emptied s.cfg s.txq, qInit_emptied s.cfg s.rxq, ?_⟩, ?_⟩
  · rw [respond_of_no_command (by exact hcmd)]
    rfl
  · rw [exec_first (i := .debugSet enable) rfl hs nofun, hostMicros, oneMicroStep, respond_of_no_command (by exact hcmd)]
    rfl

/-- R85: the word of a command that is done. -/
theorem respWord_done (result : Bool) : respWord .done result = if result then 0x01 else 0x00 := by
  cases result <;> rfl

/-- Settles O47: each predicate answers its test as the result bit. -/
theorem predicateCommandsAnswer : Obligations.PredicateCommandsAnswer := by
  unfold Obligations.PredicateCommandsAnswer
  intro s hs hinit
  obtain ⟨-, -, hcmd⟩ := id hs
  have answer (i : Instr) (test : State → Bool) (hi : (encode i).isSome = true)
      (hmicro : hostMicros i = oneMicroStep fun s => respond .done (test s) [] s) :
      exec i s = .next { s with responses := s.responses ++ [⟨if test s then 0x01 else 0x00, []⟩] } := by
    rw [exec_first hi hs fun _ => hinit, hmicro, oneMicroStep, respond_of_no_command hcmd, respWord_done]
  refine ⟨?_, ?_, ?_, ?_⟩
  · simpa only [qIsEmpty_iff] using answer .txqEmpty (fun s => qIsEmpty s.txq) rfl rfl
  · simpa only [qIsFull_iff, nextIndex] using answer .txqFull (fun s => qIsFull s.cfg s.txq) rfl rfl
  · simpa only [qIsEmpty_iff] using answer .rxqEmpty (fun s => qIsEmpty s.rxq) rfl rfl
  · simpa only [qIsFull_iff, nextIndex] using answer .rxqFull (fun s => qIsFull s.cfg s.rxq) rfl rfl

/-! ### SEND -/

/-- R6, R7: a payload within MAX_LEN fits its length byte. -/
theorem toNat_length_of_le {payload : List Byte} (hc : c.Wf) (hlen : payload.length ≤ c.maxLen) :
    (BitVec.ofNat 8 payload.length).toNat = payload.length := by
  obtain ⟨-, -, -, hmax⟩ := hc
  rw [BitVec.toNat_ofNat, Nat.mod_eq_of_lt (by omega)]

/-- R182: within MAX_LEN the first micro-step queues the packet where TXQ takes it. -/
theorem sendEnqueue_of_queued {payload : List Byte} (hlen : payload.length ≤ s.cfg.maxLen)
    (hq : qEnqueue s.cfg s.txq (Packet.ofBytes 0 (BitVec.ofNat 8 payload.length) payload) s.draws = .ok (some q)) :
    sendEnqueue payload s =
      .next { emitDiag .tx (Packet.ofBytes 0 (BitVec.ofNat 8 payload.length) payload) (fresh { s with txq := q }) with
        hcmd := some ⟨.send payload, 0, true⟩ } := by
  rw [sendEnqueue, if_neg (Nat.not_lt.mpr hlen)]
  dsimp only
  rw [hq]

/-- R182, R212: and answers 0x00 where TXQ does not. -/
theorem sendEnqueue_of_full {payload : List Byte} (hlen : payload.length ≤ s.cfg.maxLen)
    (hq : qEnqueue s.cfg s.txq (Packet.ofBytes 0 (BitVec.ofNat 8 payload.length) payload) s.draws = .ok none) :
    sendEnqueue payload s = .next (respond .done false [] s) := by
  rw [sendEnqueue, if_neg (Nat.not_lt.mpr hlen)]
  dsimp only
  rw [hq]

/-- Settles O41: with room, TXQ becomes `appended`. -/
theorem sendQueuesPacket : Obligations.SendQueuesPacket := by
  unfold Obligations.SendQueuesPacket
  intro payload s hc hs hinit hlen hroom htail
  have hbyte := toNat_length_of_le hc hlen
  have hfits : (Packet.ofBytes 0 (BitVec.ofNat 8 payload.length) payload).length.toNat ≤ s.cfg.maxLen := by
    rwa [Packet.ofBytes, hbyte]
  have hexec : exec (.send payload) s = sendEnqueue payload s := exec_first rfl hs fun _ => hinit
  rw [hexec, sendEnqueue_of_queued hlen (qEnqueue_of_room hfits hroom htail)]
  refine ⟨_, rfl, appended_stored hfits fun j _ => ?_, ?_⟩
  · rw [body_ofBytes 0 _ payload s.draws hbyte.symm]
  · simp only [emitDiag, fresh, body_ofBytes 0 _ payload _ hbyte.symm]
    rfl

/-- Settles O42: the micro-step after the one that queued the packet. -/
theorem sendAssertsRequest : Obligations.SendAssertsRequest := by
  unfold Obligations.SendAssertsRequest
  intro payload s hfatal hsvc hcmd
  have hexec : exec (.send payload) s = sendAssert s := exec_continue rfl (hostEnabled_iff.mpr ⟨hfatal, hsvc⟩) hcmd
  rw [hexec, sendAssert, hcmd]
  rfl

/-- Settles O43: the length check and the full queue give one answer. -/
theorem sendRejects : Obligations.SendRejects := by
  unfold Obligations.SendRejects
  intro payload s hc hs hinit h
  obtain ⟨-, -, hcmd⟩ := id hs
  have hexec : exec (.send payload) s = sendEnqueue payload s := exec_first rfl hs fun _ => hinit
  have hreject : sendEnqueue payload s = .next (respond .done false [] s) := by
    by_cases hlen : s.cfg.maxLen < payload.length
    · rw [sendEnqueue, if_pos hlen]
    · have hle : payload.length ≤ s.cfg.maxLen := by omega
      have hfits : (Packet.ofBytes 0 (BitVec.ofNat 8 payload.length) payload).length.toNat ≤ s.cfg.maxLen := by
        rwa [Packet.ofBytes, toNat_length_of_le hc hle]
      exact sendEnqueue_of_full hle (qEnqueue_of_full hfits (h.resolve_left hlen))
  rw [hexec, hreject, respond_of_no_command hcmd]
  rfl

/-! ### PEEK_EVENT and GET_EVENT -/

/-- Settles O44: in POLLED mode the first micro-step is `pollFirst`. -/
theorem pollingCommandsPollFirst : Obligations.PollingCommandsPollFirst := by
  unfold Obligations.PollingCommandsPollFirst
  intro i s hi hs hinit hmode
  obtain ⟨reqn, svcSt, hpolled, hpoll⟩ := pollCheck_polled s
  have hfirst : hostMicros i 0 s = .next (pollFirst i s) := by
    rcases hi with rfl | rfl <;> exact if_pos hmode
  have henc : (encode i).isSome = true := by rcases hi with rfl | rfl <;> rfl
  refine ⟨reqn, svcSt, hpolled, ?_, rfl⟩
  rw [exec_first henc hs fun _ => hinit, hfirst, pollFirst, hpoll]

/-- R183, R184, R191: the micro-step after the poll, or the first one in EDGE mode, is the command's effect. -/
theorem exec_of_atEffect {body : State → Result} (hi : (encode i).isSome = true) (hmicro : hostMicros i = pollThen i body)
    (hs : s.AtEffect i) : exec i s = body s := by
  obtain ⟨hfatal, hsvc, ⟨hcmd, hinit, hmode⟩ | hcmd⟩ := hs
  · have hedge : s.mode ≠ .polled := by simp [hmode]
    rw [exec_first hi ⟨hfatal, hsvc, hcmd⟩ fun _ => hinit, hmicro, pollThen, if_neg hedge]
  · rw [exec_continue hi (hostEnabled_iff.mpr ⟨hfatal, hsvc⟩) hcmd, hmicro]
    rfl

/-- R104: the head packet of a slot that holds a packet is defined. -/
theorem headPacket_defined (d : Nat) (h : q.Holds c q.head) : (headPacket c q d).Defined c := by
  obtain ⟨-, hlength, hbytes⟩ := headPacket_copied d h
  obtain ⟨-, length, hlen, hbound, hwritten⟩ := h
  obtain rfl : (headPacket c q d).length = length := Option.some.inj (hlength.trans hlen)
  exact ⟨hbound, fun j hj => by rw [hbytes j hj]; exact hwritten j hj⟩

/-- R86: byte j of the payload in the image of a packet. -/
theorem image_getElem? (d : Nat) (hp : p.Defined c) {j : Nat} (hj : j < p.length.toNat) :
    (p.image c d)[2 + j]? = Memory.read p.payload j := by
  obtain ⟨b, hb⟩ := Option.isSome_iff_exists.mp (hp.written j hj)
  have hmax : j < c.maxLen := Nat.lt_of_lt_of_le hj hp.lengthBounded
  simp [Packet.image, Nat.add_comm 2, hmax, hj, byteAt_of_read d hb, hb]

/-- R86: the image of the head packet is that of the head slot. -/
theorem image_headPacket (d d' : Nat) (h : q.Holds c q.head) :
    q.ImageOf c q.head ((headPacket c q d).image c d') := by
  obtain ⟨hstatus, hlength, hbytes⟩ := headPacket_copied d h
  refine ⟨packet_image_length .., hstatus, hlength, fun length hlen j hj => ?_⟩
  obtain rfl : (headPacket c q d).length = length := Option.some.inj (hlength.trans hlen)
  rw [image_getElem? d' (headPacket_defined d h) hj, hbytes j hj]

/-- R190: the record of a defined packet holds the payload bytes of its image. -/
theorem body_eq_image (d d' : Nat) (hp : p.Defined c) :
    Packet.body p d = ((p.image c d').drop 2).take p.length.toNat := by
  have hmax := hp.lengthBounded
  refine List.ext_getElem? fun j => ?_
  by_cases hj : j < p.length.toNat
  · obtain ⟨b, hb⟩ := Option.isSome_iff_exists.mp (hp.written j hj)
    rw [List.getElem?_take_of_lt hj, List.getElem?_drop, image_getElem? d' hp hj, hb]
    simp [Packet.body, hj, byteAt_of_read d hb]
  · rw [List.getElem?_take_eq_none (by omega), List.getElem?_eq_none (by simpa using hj)]

/-- R162: after a successful dequeue the unmask check writes RDY_MASK alone. -/
theorem unmaskCheck_true_eq (wasFull : Bool) (s : State) :
    unmaskCheck true wasFull s =
      { s with rdyMask := if s.mode = .edge ∧ wasFull = true then false else s.rdyMask } := by
  obtain ⟨-, hwas, hedge, heq⟩ | ⟨hnot, heq⟩ := unmaskCheck_cases true wasFull s
  · rw [heq, if_pos ⟨hedge, hwas⟩]
  · rw [heq, if_neg fun ⟨hedge, hwas⟩ => hnot ⟨rfl, hwas, hedge⟩]

/-- Settles O45: the peek of RXQ, and the image of its head packet. -/
theorem peekEventReturnsHead : Obligations.PeekEventReturnsHead := by
  unfold Obligations.PeekEventReturnsHead
  intro s hs
  rw [exec_of_atEffect rfl rfl hs, peekHead]
  refine ⟨fun hempty => ?_, fun hne hhead hholds => ?_⟩
  · rw [qPeek_of_empty s.draws hempty]
    rfl
  · rw [qPeek_of_nonempty s.draws hne hhead]
    exact ⟨_, _, image_headPacket s.draws _ hholds, rfl⟩

/-- R184, R162: with an entry, GET_EVENT's effect: the dequeue, the mask, the record, the response, and the draws. -/
theorem getHead_of_nonempty (hne : s.rxq.head ≠ s.rxq.tail) (hhead : s.rxq.head < s.cfg.qdepth) :
    ∃ d d' d'', getHead s = .next { s with
      rxq := s.rxq.dropped s.cfg
      rdyMask := if s.mode = .edge ∧ qIsFull s.cfg s.rxq = true then false else s.rdyMask
      diag := if s.debugEn then
          s.diag ++ [⟨.rx, (headPacket s.cfg s.rxq s.draws).length, (headPacket s.cfg s.rxq s.draws).body d⟩]
        else s.diag
      hcmd := none
      responses := s.responses ++ [⟨0x01, (headPacket s.cfg s.rxq s.draws).image s.cfg d'⟩]
      draws := d'' } := by
  rw [getHead, qDequeue_of_nonempty s.draws hne hhead]
  dsimp only
  rw [unmaskCheck_true_eq]
  exact ⟨_, _, _, rfl⟩

/-- Settles O46: the dequeue of RXQ, the image of its head packet, and the unmask check after it. -/
theorem getEventRemovesHead : Obligations.GetEventRemovesHead := by
  unfold Obligations.GetEventRemovesHead
  intro s hs
  rw [exec_of_atEffect rfl rfl hs]
  refine ⟨fun hempty => ?_, fun hne hhead hholds => ?_⟩
  · rw [getHead, qDequeue_of_empty s.draws hempty, unmaskCheck_of_not_drained (.inl rfl)]
    rfl
  · obtain ⟨-, hlength, -⟩ := headPacket_copied s.draws hholds
    obtain ⟨d, d', d'', heq⟩ := getHead_of_nonempty hne hhead
    refine ⟨_, _, d'', image_headPacket s.draws d' hholds, hlength.symm, ?_⟩
    rw [heq, body_eq_image d d' (headPacket_defined s.draws hholds)]
    rfl

end Sys2Proof.Machine
end

section
/-! PROOFS. The transaction engine (R123 to R130): the frame sent, the header and body exchanges, a whole transaction by induction
on its body, and the rest of the family `41_transaction.md`. -/

namespace Sys2Proof.Machine

variable {s : State} {c : Config} {p : Packet}

/-! ### One exchange -/

/-- R10, R13: the byte that the next exchange receives. -/
def State.received (s : State) : Byte := s.devAnswers.head?.getD (Config.freeAnswer s.draws)

theorem answers_received (s : State) : s.Answers s.received := by
  unfold State.Answers State.received
  cases s.devAnswers <;> simp

theorem received_of_cons {r : Byte} {more : List Byte} (h : s.devAnswers = r :: more) : s.received = r := by
  simp [State.received, h]

/-- R88: what is sent at a position is the frame byte of a defined packet, not a draw. -/
theorem txframe_frameByte (hp : p.Defined c) (d k : Nat) : p.FrameByte k (txframe p d k) := by
  unfold txframe
  refine ⟨fun hk => if_pos hk, fun hlow hhigh => ?_, fun hk => ?_⟩
  · obtain ⟨b, hb⟩ := Option.isSome_iff_exists.mp (hp.written (k - 1) (by omega))
    rw [if_neg (by omega), if_pos hhigh, byteAt_of_read d hb, hb]
  · rw [if_neg (by omega), if_neg (by omega)]

/-! ### The byte count -/

/-- Settles O28: the two branches of the formula. -/
theorem maxBytesRule : Obligations.MaxBytesRule := by
  unfold Obligations.MaxBytesRule
  intro c lh ld
  have ⟨_, hreceived, hsent⟩ := maxBytes_bounds c lh ld
  refine ⟨fun h => ?_, fun h => ?_, fun h => by omega, hreceived⟩
  · rw [maxBytes, if_pos h]
  · rw [maxBytes, if_neg h]

/-- R7: a number within MAX_LEN is the value of its byte. -/
theorem toNat_ofNat_of_le {n : Nat} (hc : c.Wf) (hn : n ≤ c.maxLen) : (BitVec.ofNat 8 n).toNat = n := by
  obtain ⟨-, -, -, hmax⟩ := hc
  rw [BitVec.toNat_ofNat, Nat.mod_eq_of_lt (by omega)]

/-- R125: the byte MB holds the count. -/
theorem toNat_maxBytes (hc : c.Wf) (lh ld : Nat) : (BitVec.ofNat 8 (maxBytes c lh ld)).toNat = maxBytes c lh ld :=
  toNat_ofNat_of_le hc (maxBytes_bounds c lh ld).1

/-! ### The three kinds of exchange -/

/-- R123. -/
theorem exec_sHdr0 (hfatal : s.fatal = false) (hsvc : s.svcSt = .sHdr0) :
    exec .sHdr0 s = .next { s with
      devAnswers := s.devAnswers.tail, wire := s.wire ++ [⟨s.txb.length, s.received⟩], svcSt := .sHdr1
      draws := s.draws + 1 } := by
  rw [exec, execSHdr0, svcStep_at hsvc hfatal]
  rfl

/-- R124. -/
theorem exec_sHdr1 (hfatal : s.fatal = false) (hsvc : s.svcSt = .sHdr1) :
    exec .sHdr1 s = .next { s with
      devAnswers := s.devAnswers.tail
      wire := s.wire ++ [⟨txframe s.txb s.draws 1, s.received⟩]
      draws := s.draws + 1
      ld := s.received
      rxb := ⟨0, BitVec.ofNat 8 (min s.received.toNat s.cfg.maxLen), []⟩
      mb := BitVec.ofNat 8 (maxBytes s.cfg s.txb.length.toNat s.received.toNat)
      k := 0
      svcSt := if 0 < maxBytes s.cfg s.txb.length.toNat s.received.toNat then .sBody else .sEnd } := by
  rw [exec, execSHdr1, svcStep_at hsvc hfatal, headerLength_eq s rfl]
  rfl

/-- R126. -/
theorem exec_sBody (hfatal : s.fatal = false) (hsvc : s.svcSt = .sBody) (hk : s.k.toNat < s.mb.toNat)
    (hmb : s.mb.toNat ≤ s.cfg.maxLen) :
    exec .sBody s = .next { s with
      devAnswers := s.devAnswers.tail
      wire := s.wire ++ [⟨txframe s.txb s.draws (2 + s.k.toNat), s.received⟩]
      draws := s.draws + 1
      rxb := { s.rxb with payload := Memory.write s.rxb.payload s.k.toNat s.received }
      k := s.k + 1
      svcSt := if s.k + 1 = s.mb then .sEnd else .sBody } := by
  rw [exec, execSBody, svcStep_at hsvc hfatal, bodyExchange_eq s rfl hk hmb]
  rfl

/-- Settles O26: S_HDR0 and S_HDR1 each make one exchange. -/
theorem headerExchanges : Obligations.HeaderExchanges := by
  unfold Obligations.HeaderExchanges
  intro s hfatal hc hp
  refine ⟨fun hsvc => ⟨_, _, answers_received s, exec_sHdr0 hfatal hsvc⟩, fun hsvc => ?_⟩
  have hmb := toNat_maxBytes hc s.txb.length.toNat s.received.toNat
  refine ⟨s.received, _, _, s.draws + 1, ⟨0, BitVec.ofNat 8 (min s.received.toNat s.cfg.maxLen), []⟩, answers_received s,
    txframe_frameByte hp s.draws 1, hmb, rfl, toNat_ofNat_of_le hc (Nat.min_le_right ..), ?_⟩
  have hnext : (if 0 < maxBytes s.cfg s.txb.length.toNat s.received.toNat then SvcState.sBody else .sEnd) =
      if BitVec.ofNat 8 (maxBytes s.cfg s.txb.length.toNat s.received.toNat) = 0 then .sEnd else .sBody := by
    simp only [← BitVec.toNat_inj, hmb, BitVec.ofNat_eq_ofNat, BitVec.toNat_ofNat, Nat.zero_mod, Nat.pos_iff_ne_zero,
      ite_not, ne_eq]
  rw [exec_sHdr1 hfatal hsvc, hnext]

/-- Settles O27: S_BODY writes the byte it receives at K. -/
theorem bodyExchangeStoresByte : Obligations.BodyExchangeStoresByte := by
  unfold Obligations.BodyExchangeStoresByte
  intro s hfatal hsvc hp hk hmb
  exact ⟨s.received, _, _, _, answers_received s, txframe_frameByte hp s.draws (2 + s.k.toNat),
    Memory.read_write_same .., fun j hj => Memory.read_write_other _ _ hj, exec_sBody hfatal hsvc hk hmb⟩

/-! ### SVC's turns in a transaction -/

section
variable {r : Byte} {turns : List Turn} {more : List Byte}

/-- `s` after S_HDR0 that received `r`, with the turns and the answers left. -/
def afterHdr0 (s : State) (r : Byte) (turns : List Turn) (more : List Byte) : State :=
  { s with
    devAnswers := more, wire := s.wire ++ [⟨s.txb.length, r⟩], svcSt := .sHdr1, draws := s.draws + 1, turns := turns }

/-- `s` after S_HDR1 that received `r`, with the turns and the answers left. -/
def afterHdr1 (s : State) (r : Byte) (turns : List Turn) (more : List Byte) : State :=
  { s with
    devAnswers := more
    wire := s.wire ++ [⟨txframe s.txb s.draws 1, r⟩]
    draws := s.draws + 1
    ld := r
    rxb := ⟨0, BitVec.ofNat 8 (min r.toNat s.cfg.maxLen), []⟩
    mb := BitVec.ofNat 8 (maxBytes s.cfg s.txb.length.toNat r.toNat)
    k := 0
    svcSt := if 0 < maxBytes s.cfg s.txb.length.toNat r.toNat then .sBody else .sEnd
    turns := turns }

/-- `s` after S_BODY that received `r`, with the turns and the answers left. -/
def afterBody (s : State) (r : Byte) (turns : List Turn) (more : List Byte) : State :=
  { s with
    devAnswers := more
    wire := s.wire ++ [⟨txframe s.txb s.draws (2 + s.k.toNat), r⟩]
    draws := s.draws + 1
    rxb := { s.rxb with payload := Memory.write s.rxb.payload s.k.toNat r }
    k := s.k + 1
    svcSt := if s.k + 1 = s.mb then .sEnd else .sBody
    turns := turns }

theorem step_sHdr0 (hfatal : s.fatal = false) (hsvc : s.svcSt = .sHdr0) (hdev : s.devAnswers = r :: more)
    (hturns : s.turns = .svc :: turns) : step s = .next (afterHdr0 s r turns more) := by
  have hexec := exec_sHdr0 (s := { s with turns := turns }) hfatal hsvc
  rw [received_of_cons (s := { s with turns := turns }) hdev] at hexec
  rw [step_svc hturns hfatal (by rw [hsvc]; rfl), hexec, afterHdr0]
  simp only [hdev, List.tail_cons]

theorem step_sHdr1 (hfatal : s.fatal = false) (hsvc : s.svcSt = .sHdr1) (hdev : s.devAnswers = r :: more)
    (hturns : s.turns = .svc :: turns) : step s = .next (afterHdr1 s r turns more) := by
  have hexec := exec_sHdr1 (s := { s with turns := turns }) hfatal hsvc
  rw [received_of_cons (s := { s with turns := turns }) hdev] at hexec
  rw [step_svc hturns hfatal (by rw [hsvc]; rfl), hexec, afterHdr1]
  simp only [hdev, List.tail_cons]

theorem step_sBody (hfatal : s.fatal = false) (hsvc : s.svcSt = .sBody) (hk : s.k.toNat < s.mb.toNat)
    (hmb : s.mb.toNat ≤ s.cfg.maxLen) (hdev : s.devAnswers = r :: more) (hturns : s.turns = .svc :: turns) :
    step s = .next (afterBody s r turns more) := by
  have hexec := exec_sBody (s := { s with turns := turns }) hfatal hsvc hk hmb
  rw [received_of_cons (s := { s with turns := turns }) hdev] at hexec
  rw [step_svc hturns hfatal (by rw [hsvc]; rfl), hexec, afterBody]
  simp only [hdev, List.tail_cons]

end

theorem toNat_add_one {k n : Byte} (h : k.toNat < n.toNat) : (k + 1).toNat = k.toNat + 1 := by
  have hn := n.isLt
  rw [BitVec.toNat_add]
  exact Nat.mod_eq_of_lt (by simp; omega)

/-! ### The body by induction on the bytes that DEV answers -/

/-- A state is unchanged by writing the values it has. -/
theorem eq_with_svcSt_k {st : SvcState} {k : Byte} (hsvc : s.svcSt = st) (hk : s.k = k) :
    s = { s with svcSt := st, k := k } := by
  subst hsvc hk
  rfl

/-- R126: from K on, as many turns of SVC as body bytes are left make that many exchanges and reach S_END. -/
theorem run_body (body more : List Byte) (turns : List Turn) (s : State) (hfatal : s.fatal = false)
    (hsvc : s.svcSt = if body = [] then .sEnd else .sBody) (hp : s.txb.Defined s.cfg)
    (hk : s.k.toNat + body.length = s.mb.toNat) (hmb : s.mb.toNat ≤ s.cfg.maxLen)
    (hdev : s.devAnswers = body ++ more) (hturns : s.turns = List.replicate body.length .svc ++ turns) :
    ∃ (t : State) (sent : List Byte), Host.Core.run Sys2Proof.core body.length s = .next t ∧ sent.length = body.length ∧
      (∀ j b, sent[j]? = some b → s.txb.FrameByte (2 + s.k.toNat + j) b) ∧
      t.rxb.status = s.rxb.status ∧ t.rxb.length = s.rxb.length ∧
      (∀ j < s.k.toNat, Memory.read t.rxb.payload j = Memory.read s.rxb.payload j) ∧
      (∀ j < body.length, Memory.read t.rxb.payload (s.k.toNat + j) = body[j]?) ∧
      t = { s with
        svcSt := .sEnd, wire := s.wire ++ List.zipWith Exchange.mk sent body, devAnswers := more
        turns := turns, rxb := t.rxb, k := s.mb, draws := t.draws } := by
  induction body generalizing s with
  | nil =>
    have hkmb : s.k = s.mb := BitVec.eq_of_toNat_eq hk
    have hend : s.svcSt = .sEnd := hsvc
    obtain rfl : s.devAnswers = more := hdev
    obtain rfl : s.turns = turns := hturns
    refine ⟨s, [], rfl, rfl, by simp, rfl, rfl, fun _ _ => rfl, by simp, ?_⟩
    rw [List.zipWith_nil_left, List.append_nil]
    exact eq_with_svcSt_k hend hkmb
  | cons r rest ih =>
    rw [List.length_cons] at hk
    have hlt : s.k.toNat < s.mb.toNat := by omega
    have hk1 := toNat_add_one hlt
    have hlast : s.k + 1 = s.mb ↔ rest = [] := by
      rw [← BitVec.toNat_inj, hk1, ← hk, ← List.length_eq_zero_iff]
      omega
    have hstep := step_sBody hfatal hsvc hlt hmb hdev hturns
    obtain ⟨t, sent, hrun, hlen, hframe, hstatus, hlength, hlow, hhigh, heq⟩ :=
      ih (afterBody s r (List.replicate rest.length .svc ++ turns) (rest ++ more)) hfatal (if_congr hlast rfl rfl) hp
        (by simp only [afterBody, hk1]; omega) hmb rfl rfl
    simp only [afterBody, hk1] at hframe hstatus hlength hlow hhigh heq
    refine ⟨t, txframe s.txb s.draws (2 + s.k.toNat) :: sent, (core_run_of_step _ hstep).trans hrun, by simp [hlen],
      fun j b hb => ?_, hstatus, hlength, fun j hj => ?_, fun j hj => ?_, ?_⟩
    · cases j with
      | zero =>
        cases hb
        exact txframe_frameByte hp s.draws (2 + s.k.toNat)
      | succ j =>
        have hpos : 2 + (s.k.toNat + 1) + j = 2 + s.k.toNat + (j + 1) := by omega
        exact hpos ▸ hframe j b hb
    · rw [hlow j (by omega), Memory.read_write_other _ _ (by omega)]
    · cases j with
      | zero => rw [Nat.add_zero, hlow _ (by omega), Memory.read_write_same]; rfl
      | succ j =>
        have hpos : s.k.toNat + (j + 1) = s.k.toNat + 1 + j := by omega
        rw [hpos, hhigh j (Nat.lt_of_succ_lt_succ hj)]
        rfl
    · refine heq.trans ?_
      rw [List.zipWith_cons_cons, List.append_assoc, List.singleton_append]

/-- Settles O31: the two header exchanges, and then the body. -/
theorem transactionExchangesFrames : Obligations.TransactionExchangesFrames := by
  unfold Obligations.TransactionExchangesFrames
  intro s r0 ld body more turns mb hc hfatal hsvc hp hmb hbody hdev hturns
  have hbyte : (BitVec.ofNat 8 mb).toNat = mb := hmb ▸ toNat_maxBytes hc ..
  have hbound : mb ≤ s.cfg.maxLen := hmb ▸ (maxBytes_bounds ..).1
  have hnext : (if 0 < maxBytes s.cfg s.txb.length.toNat ld.toNat then SvcState.sBody else .sEnd) =
      if body = [] then .sEnd else .sBody := by
    simp only [← hmb, ← hbody, List.length_pos_iff, ite_not, ne_eq]
  have hcount : 2 + mb = body.length + 1 + 1 := by omega
  rw [hcount, List.replicate_succ, List.replicate_succ] at hturns
  have hstep0 := step_sHdr0 hfatal hsvc hdev hturns
  have hstep1 := step_sHdr1 (s := afterHdr0 s r0 (.svc :: (List.replicate body.length .svc ++ turns)) (ld :: (body ++ more)))
    hfatal rfl rfl rfl
  obtain ⟨t, sent, hrun, hlen, hframe, hstatus, hlength, -, hpayload, heq⟩ :=
    run_body body more turns (afterHdr1 (afterHdr0 s r0 _ _) ld _ _) hfatal hnext hp
      (by simp [afterHdr1, afterHdr0, ← hmb, hbody, hbyte]) (by simp [afterHdr1, afterHdr0, ← hmb, hbyte, hbound]) rfl rfl
  simp only [afterHdr1, afterHdr0, ← hmb, BitVec.ofNat_eq_ofNat, BitVec.toNat_ofNat, Nat.zero_mod, Nat.zero_add,
    Nat.add_zero, hbody]
    at hframe hstatus hlength hpayload heq
  rw [hcount]
  refine ⟨t, s.txb.length :: txframe s.txb (s.draws + 1) 1 :: sent,
    ((core_run_of_step _ hstep0).trans (core_run_of_step _ hstep1)).trans hrun, by simp [hlen], fun k b hb => ?_, hstatus,
    ?_, hpayload, ?_⟩
  · match k with
    | 0 =>
      cases hb
      exact txframe_frameByte hp s.draws 0
    | 1 =>
      cases hb
      exact txframe_frameByte hp (s.draws + 1) 1
    | k + 2 => exact Nat.add_comm 2 k ▸ hframe k b hb
  · rw [hlength, toNat_ofNat_of_le hc (Nat.min_le_right ..)]
  · refine heq.trans ?_
    rw [List.zipWith_cons_cons, List.zipWith_cons_cons, List.append_assoc, List.append_assoc]
    rfl

end Sys2Proof.Machine
end

section
/-! PROOFS. The bridge, the fatal exception and reset (R142 to R147, R210 to R215, R240): where a service starts, what S_POST
queues, the poll, the model faults, and the rest of the families `42_bridge.md`, `60_exceptions.md` and
`70_reset_and_hazards.md`. -/

namespace Sys2Proof.Machine

variable {s : State} {i : Instr} {c : Config} {p : Packet}

/-! ### The start and the poll -/

/-- Settles O32: the two values of `startEnabled`. -/
theorem serviceStartCondition : Obligations.ServiceStartCondition := by
  unfold Obligations.ServiceStartCondition
  intro s
  rw [← startEnabled_iff]
  exact ⟨fun h => if_pos h, fun h => if_neg h⟩

/-- Settles O37: where the poll may run it is `pollCheck_polled`. -/
theorem pollCheckRule : Obligations.PollCheckRule := by
  unfold Obligations.PollCheckRule
  intro s
  refine ⟨fun hinit hmode ⟨hfatal, hsvc, hcmd⟩ => ?_, fun h => if_neg fun hs => ?_⟩
  · obtain ⟨reqn, svcSt, hpolled, heq⟩ := pollCheck_polled s
    have hs : pollEnabled s = true := pollEnabled_iff.mpr ⟨hfatal, hsvc, hinit, hmode, hcmd⟩
    exact ⟨reqn, svcSt, hpolled, heq ▸ if_pos hs⟩
  · obtain ⟨hfatal, hsvc, hinit, hmode, hcmd⟩ := pollEnabled_iff.mp hs
    obtain h | h | h := h
    · simp [hinit] at h
    · simp [hmode] at h
    · exact h ⟨hfatal, hsvc, hcmd⟩

/-! ### S_POST -/

theorem exec_sPost (hfatal : s.fatal = false) (hsvc : s.svcSt = .sPost) : exec .sPost s = postResult s :=
  svcStep_at hsvc hfatal

/-- R144: an idle marker queues nothing. -/
theorem postResult_of_idle (h : s.rxb.length = 0) : postResult s = .next { s with svcSt := .sExit } :=
  if_pos (by rw [h]; rfl)

theorem toNat_ne_zero {b : Byte} (h : b ≠ 0) : b.toNat ≠ 0 := fun h0 => h (BitVec.eq_of_toNat_eq h0)

/-- R144: a packet of non-zero length is enqueued. -/
theorem postResult_of_queued {q : Queue} (h : s.rxb.length ≠ 0)
    (hq : qEnqueue s.cfg s.rxq s.rxb s.draws = .ok (some q)) :
    postResult s = .next { maskCheck (fresh { s with rxq := q }) with svcSt := .sExit } := by
  rw [postResult, if_neg (toNat_ne_zero h), hq]

theorem postResult_of_full (h : s.rxb.length ≠ 0) (hq : qEnqueue s.cfg s.rxq s.rxb s.draws = .ok none) :
    postResult s = .next (raiseFatal causeRxqOverflow s) := by
  rw [postResult, if_neg (toNat_ne_zero h), hq]

theorem postResult_of_fault {f : Fault} (h : s.rxb.length ≠ 0) (hq : qEnqueue s.cfg s.rxq s.rxb s.draws = .error f) :
    postResult s = .fault f := by
  rw [postResult, if_neg (toNat_ne_zero h), hq]

/-- R161: the mask check writes RDY_MASK alone. -/
theorem maskCheck_eq (s : State) :
    maskCheck s = { s with rdyMask := s.rdyMask || (decide (s.mode = .edge) && qIsFull s.cfg s.rxq) } := by
  obtain ⟨hedge, hfull, heq⟩ | ⟨hnot, heq⟩ := maskCheck_cases s
  · rw [heq, hfull, decide_eq_true hedge, Bool.and_self, Bool.or_true]
  · have hno : (decide (s.mode = .edge) && qIsFull s.cfg s.rxq) = false := by simpa using hnot
    rw [heq, hno, Bool.or_false]

/-- The bytes of a defined packet that an enqueue stores are its payload. -/
theorem body_getElem? (d : Nat) (hp : p.Defined c) {j : Nat} (hj : j < p.length.toNat) :
    (Packet.body p d)[j]? = Memory.read p.payload j := by
  obtain ⟨b, hb⟩ := Option.isSome_iff_exists.mp (hp.written j hj)
  simp [Packet.body, hj, byteAt_of_read d hb, hb]

/-- Settles O34: an idle marker, or RXQ becomes `appended` and the mask check follows. -/
theorem postQueuesResult : Obligations.PostQueuesResult := by
  unfold Obligations.PostQueuesResult
  intro s hfatal hsvc
  rw [exec_sPost hfatal hsvc]
  refine ⟨postResult_of_idle, fun hne hp hroom htail => ?_⟩
  rw [postResult_of_queued hne (qEnqueue_of_room hp.lengthBounded hroom htail), maskCheck_eq]
  exact ⟨_, rfl, appended_stored hp.lengthBounded fun j hj => body_getElem? s.draws hp hj, rfl, rfl⟩

/-- Settles O35: raising Fatal is one write, and an overflow raises it. -/
theorem raisingFatalSetsFatalState : Obligations.RaisingFatalSetsFatalState := by
  unfold Obligations.RaisingFatalSetsFatalState
  intro cause s
  refine ⟨rfl, fun hfatal hsvc hne hlen hfull => ?_⟩
  rw [exec_sPost hfatal hsvc, postResult_of_full hne (qEnqueue_of_full hlen hfull)]
  rfl

/-! ### Model faults -/

/-- R38: the operation that a service state names is a step of the service sequence. -/
theorem exec_svcInstr {st : SvcState} (hi : svcInstr st = some i) (hst : st ≠ .sIdle) :
    ∃ body, ∀ s, exec i s = svcStep st body s := by
  cases st with
  | sIdle => exact absurd rfl hst
  | sFatal => cases hi
  | _ => cases hi; exact ⟨_, fun _ => rfl⟩

/-- R215: a step of the service sequence where SVC is not at it. -/
theorem svcStep_out_of_place {st : SvcState} (body : State → Result) (h : s.svcSt ≠ st ∨ s.fatal = true) :
    svcStep st body s = .fault .svcPrecondition := by
  obtain ⟨hsvc, hfatal, -⟩ | ⟨-, heq⟩ := svcStep_cases st body s
  · simp [hsvc, hfatal] at h
  · exact heq

/-- A step of the service sequence whose body faults so is that fault, whether SVC is at it or not. -/
theorem svcStep_of_body_fault {st : SvcState} {body : State → Result} (h : body s = .fault .svcPrecondition) :
    svcStep st body s = .fault .svcPrecondition := by
  obtain ⟨-, -, heq⟩ | ⟨-, heq⟩ := svcStep_cases st body s
  · rw [heq, h]
  · exact heq

/-- Settles O29: the guard of `svcStep`, and the two bodies with a precondition of their own. -/
theorem serviceStepOutOfPlaceFaults : Obligations.ServiceStepOutOfPlaceFaults := by
  unfold Obligations.ServiceStepOutOfPlaceFaults
  intro s st i hi hst
  refine ⟨fun h => ?_, fun _ hk => ?_, fun _ hmode => ?_⟩
  · obtain ⟨body, hexec⟩ := exec_svcInstr hi hst
    rw [hexec, svcStep_out_of_place body h]
  · exact svcStep_of_body_fault (if_neg fun h => by omega)
  · have hno : s.mode ≠ .edge := by simp [hmode]
    rw [exec, execSEntry]
    exact svcStep_of_body_fault (if_neg hno)

/-- Settles O30: an index outside the storage, a length above MAX_LEN, and a third micro-step. -/
theorem outOfRangeStateFaults : Obligations.OutOfRangeStateFaults := by
  unfold Obligations.OutOfRangeStateFaults
  intro s
  refine ⟨fun q st length payload hlen hroom htail => ?_, fun q hne hhead => ⟨fun dst => ?_, fun dst => ?_⟩,
    fun hfatal hsvc hne hhead => ?_, fun hfatal hsvc hlen => ?_, fun i n ok hi hfatal hsvc hcmd => ?_⟩
  · rw [exec_qEnqueue, execQEnqueue, qEnqueue_of_tail_outside (p := Packet.ofBytes st length payload) hlen hroom htail]
  · rw [exec, execQDequeue, qDequeue_of_head_outside s.draws hne hhead]
  · rw [exec, execQPeek, qPeek_of_head_outside s.draws hne hhead]
  · rw [exec_sFetch hfatal hsvc, fetchOutgoing, qDequeue_of_head_outside s.draws hne hhead]
  · have hne : s.rxb.length ≠ 0 := by
      rintro h
      simp [h] at hlen
    rw [exec_sPost hfatal hsvc, postResult_of_fault hne (qEnqueue_of_overlong hlen)]
  · rw [exec_continue hi (hostEnabled_iff.mpr ⟨hfatal, hsvc⟩) hcmd, hostMicros_past_end]

/-! ### Reset -/

/-- Settles O13: RST is `hardReset`, whose queues are those at reset. -/
theorem rstEstablishesReset : Obligations.RstEstablishesReset := by
  unfold Obligations.RstEstablishesReset
  intro s
  exact ⟨hardReset s, rfl, rfl, rfl, rfl, rfl, fun a => ⟨Queue.read_atReset a, Queue.read_atReset a⟩, rfl⟩

end Sys2Proof.Machine
end

section
/-! PROOFS. Steps and stores (R14, R49): a step is one effect in the state that selecting the operation leaves, and every effect
keeps every store in canonical form. -/

namespace Sys2Proof.Machine

variable {s t u : State} {i : Instr} {c : Config} {q q' : Queue} {p : Packet} {d : Nat}

/-! ### What one step does -/

/-- A step that goes on passes the turn, or has one of the effects of the operation that it runs. -/
theorem step_effect (h : step s = .next t) :
    ∃ u, SameButSchedule s u ∧ (t = u ∨ ∃ i, s.runs = some i ∧ Effect u i t) := by
  refine ⟨_, nextOperation_sameButSchedule s, ?_⟩
  obtain ⟨i, hnext, hexec⟩ | ⟨-, hpass⟩ := step_cases s
  · exact .inr ⟨i, congrArg Prod.fst hnext, exec_effect (hexec ▸ h)⟩
  · rw [hpass] at h
    cases h
    exact .inl rfl

/-! ### Canonical stores -/

theorem qInit_canonical (c : Config) (h : Memory.wf q.mem = true) : Memory.wf (qInit c q).mem = true :=
  wf_zeroLengths c c.qdepth h

theorem qEnqueue_canonical (hq : qEnqueue c q p d = .ok (some q')) (h : Memory.wf q.mem = true) :
    Memory.wf q'.mem = true := by
  obtain ⟨-, -, rfl⟩ := qEnqueue_eq_some hq
  exact Memory.wf_writeList _ _ h

theorem qDequeue_canonical (hq : qDequeue c q d = .ok (some (p, q'))) (h : Memory.wf q.mem = true) :
    Memory.wf q'.mem = true ∧ Memory.wf p.payload = true := by
  obtain ⟨-, rfl, rfl⟩ := qDequeue_eq_some hq
  exact ⟨h, Memory.wf_slice ..⟩

theorem qPeek_canonical (hq : qPeek c q d = .ok (some p)) : Memory.wf p.payload = true := by
  obtain ⟨heq, -⟩ | ⟨heq, -⟩ | ⟨heq, -⟩ := qPeek_cases c q d <;> rw [heq] at hq <;> cases hq
  exact Memory.wf_slice ..

theorem State.Canonical.queue (hs : s.Canonical) (name : QueueName) : Memory.wf (s.queue name).mem = true := by
  obtain ⟨htx, hrx, -⟩ := hs
  cases name
  · exact htx
  · exact hrx

theorem State.Canonical.setQueue (hs : s.Canonical) (name : QueueName) (hq : Memory.wf q.mem = true) :
    (s.setQueue name q).Canonical := by
  obtain ⟨htx, hrx, hpackets⟩ := hs
  cases name
  · exact ⟨hq, hrx, hpackets⟩
  · exact ⟨htx, hq, hpackets⟩

theorem State.Canonical.setPacket (hs : s.Canonical) (r : PacketReg) (hp : Memory.wf p.payload = true) :
    (s.setPacket r p).Canonical := by
  obtain ⟨htx, hrx, htxb, hrxb, hout⟩ := hs
  cases r
  · exact ⟨htx, hrx, hp, hrxb, hout⟩
  · exact ⟨htx, hrx, htxb, hp, hout⟩
  · exact ⟨htx, hrx, htxb, hrxb, hp⟩

/-- R49: every effect of every operation keeps the canonical form. -/
theorem effect_keeps_canonical (hs : s.Canonical) (he : Effect s i t) : t.Canonical := by
  have ⟨htx, hrx, htxb, hrxb, hout⟩ := hs
  cases he with
  | sendQueued _ _ _ _ _ hq => exact ⟨qEnqueue_canonical hq htx, hrx, htxb, hrxb, hout⟩
  | got _ _ _ _ hq =>
    rw [unmaskCheck_true_eq]
    exact ⟨htx, (qDequeue_canonical hq hrx).1, htxb, hrxb, hout⟩
  | linked | flushed | bothEmptied =>
    exact ⟨qInit_canonical s.cfg htx, qInit_canonical s.cfg hrx, htxb, hrxb, hout⟩
  | emptied q => exact hs.setQueue q (qInit_canonical s.cfg (hs.queue q))
  | @enqueued q _ _ _ _ hq =>
    exact State.Canonical.setQueue (s := { s with primOk := true }) hs q (qEnqueue_canonical hq (hs.queue q))
  | @discarded q _ _ hq =>
    exact State.Canonical.setQueue (s := { s with primOk := true }) hs q (qDequeue_canonical hq (hs.queue q)).1
  | @dequeued q r _ _ hq =>
    obtain ⟨hmem, hpayload⟩ := qDequeue_canonical hq (hs.queue q)
    have htaken := State.Canonical.setQueue (s := { s with primOk := true }) hs q hmem
    exact State.Canonical.setPacket (s := fresh _) htaken r hpayload
  | peekedTo r _ hp =>
    exact State.Canonical.setPacket (s := fresh { s with primOk := true }) hs r (qPeek_canonical hp)
  | fetchedNull => exact ⟨htx, hrx, Memory.wf_nil, hrxb, hout⟩
  | fetched _ _ _ hq =>
    obtain ⟨hmem, hpayload⟩ := qDequeue_canonical hq htx
    exact ⟨hmem, hrx, hpayload, hrxb, hout⟩
  | headerTaken => exact ⟨htx, hrx, htxb, Memory.wf_nil, hout⟩
  | bodyTaken => exact ⟨htx, hrx, htxb, Memory.wf_write _ _ hrxb, hout⟩
  | posted _ _ hq =>
    rw [maskCheck_eq]
    exact ⟨htx, qEnqueue_canonical hq hrx, htxb, hrxb, hout⟩
  | maskChecked =>
    rw [maskCheck_eq]
    exact hs
  | unmaskChecked ok wasFull =>
    obtain ⟨-, -, -, heq⟩ | ⟨-, heq⟩ := unmaskCheck_cases ok wasFull s <;> rw [heq] <;> exact hs
  | hardReset => exact ⟨Memory.wf_nil, Memory.wf_nil, Memory.wf_nil, Memory.wf_nil, hout⟩
  | _ => exact hs

/-- Settles O56: the step is one effect, and selecting its operation writes no store. -/
theorem canonicalStoresKept : Obligations.CanonicalStoresKept := by
  unfold Obligations.CanonicalStoresKept
  intro s t hs h
  obtain ⟨u, hu, ht⟩ := step_effect h
  have hu' : u.Canonical := by
    rw [hu]
    exact hs
  obtain rfl | ⟨i, -, he⟩ := ht
  · exact hu'
  · exact effect_keeps_canonical hu' he

end Sys2Proof.Machine
end

section
/-! PROOFS. The invariant of the running machine (R49, R148, R163, R165, R214): reset has it, every effect of an operation that an
agent selects keeps it, a state with it always has a next state, and so no run from it becomes fatal. -/

namespace Sys2Proof

/-- R12 to R17: the operations that an agent or the reset input selects; the others run only as operations of their own. -/
def Instr.scheduled : Instr → Bool
  | .qIsEmpty _ | .qIsFull _ | .qInit _ | .qEnqueue _ _ _ _ | .qDequeue _ _ | .qPeek _ _ | .qFlush
  | .pollCheck | .maskCheck | .unmaskCheck _ _ | .fatal _ => false
  | _ => true

/-- R94: host commands are among them. -/
theorem Instr.scheduled_of_encode {i : Instr} (hi : (encode i).isSome = true) : i.scheduled = true := by
  cases i with
  | init | send | peekEvent | getEvent | txqEmpty | txqFull | rxqEmpty | rxqFull | flush | debugSet | illegal => rfl
  | _ => cases hi

end Sys2Proof

namespace Sys2Proof.Machine

variable {s t u : State} {i : Instr} {c : Config} {q : Queue} {p : Packet} {d : Nat}

/-! ### Reset -/

theorem atReset_wf (hc : 0 < c.qdepth) : Queue.atReset.Wf c where
  headInRange := hc
  tailInRange := hc
  canonical := rfl
  occupied n hn := by simp [Queue.count] at hn

/-- R48: the fields that reset sets make the invariant, whatever the others hold. -/
theorem inv_of_reset_values (hc : t.cfg.Wf) (hstores : t.Canonical) (htx : t.txq = Queue.atReset)
    (hrx : t.rxq = Queue.atReset) (hreqn : t.reqn = true) (hmask : t.rdyMask = false) (hattached : t.attached = false)
    (hpend : t.rdyPend = false) (hsvc : t.svcSt = .sIdle) (hfatal : t.fatal = false) (hcause : t.fatalCause = 0)
    (hinit : t.initDone = false) (hcmd : t.hcmd = none) : t.Inv where
  parameters := hc
  outgoing := htx ▸ atReset_wf (by have := hc.1; omega)
  incoming := hrx ▸ atReset_wf (by have := hc.1; omega)
  stores := hstores
  notFatal := ⟨hfatal, hcause, by simp [hsvc]⟩
  beforeInit _ := ⟨hreqn, hmask, hattached, hpend, hsvc, hcmd⟩
  fullIsMasked h := by simp [hinit] at h
  edgeAttached h := by simp [hinit] at h
  polledQuiet h := by simp [hinit] at h
  room h := by simp [hsvc, SvcState.beforePost] at h
  maskedAtExit h := by simp [hsvc] at h
  inlineService h := by simp [hinit] at h
  command h hh := by simp [hcmd] at hh
  outPacket h := by simp [hsvc, SvcState.sending] at h
  inPacket h := by simp [hsvc, SvcState.received] at h
  bodyCount h := by simp [hsvc] at h
  bodyDone h := by simp [hsvc, SvcState.received] at h
  requestLine := by simp [hsvc, SvcState.requesting]

/-- Settles O57: `State.reset` has the values of R48. -/
theorem resetHasInvariant : Obligations.ResetHasInvariant := by
  unfold Obligations.ResetHasInvariant
  exact inv_of_reset_values (by decide) ⟨rfl, rfl, rfl, rfl, rfl⟩ rfl rfl rfl rfl rfl rfl rfl rfl rfl rfl rfl

/-- R240: RST gives the invariant. -/
theorem hardReset_inv (hs : s.Inv) : (hardReset s).Inv := by
  obtain ⟨-, -, -, -, hout⟩ := hs.stores
  exact inv_of_reset_values hs.parameters ⟨rfl, rfl, rfl, rfl, hout⟩ rfl rfl rfl rfl rfl rfl rfl rfl rfl rfl rfl

/-! ### Facts that every case uses -/

/-- The invariant does not speak of the turns, the draw counter and the command port. -/
theorem SameButSchedule.inv (h : SameButSchedule s u) (hs : s.Inv) : u.Inv := by
  rw [h]
  exact { hs with }

/-- R241: a service or a command in progress is after INIT. -/
theorem State.Inv.initDone_of_service (hs : s.Inv) (h : s.svcSt ≠ .sIdle) : s.initDone = true := by
  by_contra hinit
  obtain ⟨-, -, -, -, hsvc, -⟩ := hs.beforeInit (by simpa using hinit)
  exact h hsvc

theorem State.Inv.initDone_of_hcmd {h : HostCommand} (hs : s.Inv) (hcmd : s.hcmd = some h) : s.initDone = true := by
  by_contra hinit
  obtain ⟨-, -, -, -, -, hnone⟩ := hs.beforeInit (by simpa using hinit)
  rw [hcmd] at hnone
  cases hnone

/-! ### Host commands -/

/-- A response ends the command and changes nothing else that the invariant speaks of. -/
theorem respond_inv (hs : s.Inv) (hsvc : s.svcSt = .sIdle) (code : Code) (result : Bool) (data : List Byte) :
    (respond code result data s).Inv :=
  { hs with
    beforeInit := fun hinit =>
      let ⟨hreqn, hmask, hattached, hpend, _, _⟩ := hs.beforeInit hinit
      ⟨hreqn, hmask, hattached, hpend, hsvc, rfl⟩
    inlineService := fun _ _ h => absurd hsvc h
    command := nofun }

/-- R106: emptying both queues keeps the invariant outside a service. -/
theorem qFlush_inv (hs : s.Inv) (hsvc : s.svcSt = .sIdle) : (qFlush s).Inv := by
  have ⟨htx, hrx, hpackets⟩ := hs.stores
  have hdepth : 0 < s.cfg.qdepth := by have := hs.parameters.1; omega
  exact { hs with
    outgoing := qInit_wf hdepth htx
    incoming := qInit_wf hdepth hrx
    stores := ⟨qInit_canonical s.cfg htx, qInit_canonical s.cfg hrx, hpackets⟩
    fullIsMasked := fun _ _ hfull => by simp [qInit_room hs.parameters] at hfull
    room := fun h => by simp [hsvc, SvcState.beforePost] at h
    maskedAtExit := fun h => by simp [hsvc] at h }

/-- R181: INIT gives the invariant. -/
theorem initLink_inv (mode : Mode) (hs : s.Inv) (hsvc : s.svcSt = .sIdle) : (initLink mode s).Inv :=
  { qFlush_inv hs hsvc with
    beforeInit := nofun
    fullIsMasked := fun _ _ hfull => by simp [initLink, qInit_room hs.parameters] at hfull
    edgeAttached := fun _ hmode => by
      obtain rfl : mode = .edge := hmode
      simp [initLink, hsvc]
    polledQuiet := fun _ hmode => by
      obtain rfl : mode = .polled := hmode
      simp [initLink, hsvc]
    room := fun h => by simp [initLink, hsvc, SvcState.beforePost] at h
    maskedAtExit := nofun
    inlineService := fun _ _ h => absurd hsvc h
    command := nofun
    requestLine := by simp [initLink, hsvc, SvcState.requesting] }

/-- R182: SEND's s1 queues a packet and waits for s2. -/
theorem sendQueued_inv {payload : List Byte} (hs : s.Inv) (hsvc : s.svcSt = .sIdle) (hinit : s.initDone = true)
    (hq : qEnqueue s.cfg s.txq (Packet.ofBytes 0 (BitVec.ofNat 8 payload.length) payload) s.draws = .ok (some q)) :
    State.Inv { emitDiag .tx (Packet.ofBytes 0 (BitVec.ofNat 8 payload.length) payload) (fresh { s with txq := q }) with
      hcmd := some ⟨.send payload, 0, true⟩ } := by
  have ⟨htx, hrest⟩ := hs.stores
  have hwf := qEnqueue_canonical hq htx
  obtain ⟨hlen, hroom, rfl⟩ := qEnqueue_eq_some hq
  exact { hs with
    outgoing := appended_wf hs.outgoing hlen hroom
    stores := ⟨hwf, hrest⟩
    beforeInit := fun hbefore => by simp [hinit] at hbefore
    inlineService := fun _ _ h => absurd hsvc h
    command := fun h hh => by
      obtain rfl := Option.some.inj hh
      exact ⟨rfl, .inl ⟨payload, rfl, rfl⟩⟩ }

/-- R34: outside a service the invariant leaves REQN open after INIT. -/
theorem withReqn_inv (reqn : Bool) (hs : s.Inv) (hsvc : s.svcSt = .sIdle) (hinit : s.initDone = true) :
    State.Inv { s with reqn := reqn } :=
  { hs with
    beforeInit := fun hbefore => by simp [hinit] at hbefore
    requestLine := by simp [hsvc, SvcState.requesting] }

/-- R184: GET_EVENT takes an entry of RXQ, and the mask stays as it was or is cleared. -/
theorem got_inv (p : Packet) (wasFull : Bool) (data : List Byte) (hs : s.Inv) (hsvc : s.svcSt = .sIdle)
    (hne : s.rxq.head ≠ s.rxq.tail) :
    State.Inv (respond .done true data
      (fresh (emitDiag .rx p (unmaskCheck true wasFull (fresh { s with rxq := s.rxq.dropped s.cfg }))))) := by
  have hkept (hmask : s.rdyMask = false) : (if s.mode = .edge ∧ wasFull = true then false else s.rdyMask) = false := by
    simp [hmask]
  rw [unmaskCheck_true_eq]
  refine respond_inv ?_ ?_ _ _ _
  · exact { hs with
      incoming := dropped_wf hs.incoming hne
      beforeInit := fun hinit =>
        let ⟨hreqn, hmask, hrest⟩ := hs.beforeInit hinit
        ⟨hreqn, hkept hmask, hrest⟩
      fullIsMasked := fun _ _ hfull => by simp [dropped_room hs.incoming hne] at hfull
      polledQuiet := fun hinit hmode =>
        let ⟨hmask, hrest⟩ := hs.polledQuiet hinit hmode
        ⟨hkept hmask, hrest⟩
      room := fun h => by simp [hsvc, SvcState.beforePost] at h
      maskedAtExit := fun h => by simp [hsvc] at h }
  · exact hsvc

/-- R146: a poll leaves SVC_ST, or starts the inline service where RXQ has room. -/
theorem State.Polled.svcSt_cases {reqn : Bool} {svcSt : SvcState} (h : s.Polled reqn svcSt) :
    svcSt = s.svcSt ∨ svcSt = .sStart ∧ qIsFull s.cfg s.rxq = false := by
  obtain ⟨hfull, hempty, hrequest, hlow⟩ := h
  cases hf : qIsFull s.cfg s.rxq with
  | true => exact .inl (hfull hf).2
  | false =>
    cases hr : s.rdyn with
    | false => exact .inr ⟨(hlow hf hr).2, rfl⟩
    | true =>
      by_cases he : s.txq.head = s.txq.tail
      · exact .inl (hempty hf hr he).2
      · exact .inl (hrequest hf hr he).2

/-- R146, R218: the poll of a polling command. -/
theorem polledFirst_inv {reqn : Bool} {svcSt : SvcState} (hs : s.Inv) (hsvc : s.svcSt = .sIdle) (hi : i.polls = true)
    (hinit : s.initDone = true) (hmode : s.mode = .polled) (hpolled : s.Polled reqn svcSt) :
    State.Inv { s with reqn := reqn, svcSt := svcSt, hcmd := some ⟨i, 0, false⟩ } := by
  have hcommand : ∀ h, some (HostCommand.mk i 0 false) = some h → h.Between s := fun h hh => by
    obtain rfl := Option.some.inj hh
    exact ⟨rfl, .inr ⟨hi, hmode⟩⟩
  have ⟨hmask, _, _, _⟩ := hs.polledQuiet hinit hmode
  obtain rfl | ⟨rfl, hroom⟩ := hpolled.svcSt_cases
  · exact { withReqn_inv reqn hs hsvc hinit with
      beforeInit := fun hbefore => by simp [hinit] at hbefore
      inlineService := fun _ _ h => absurd hsvc h
      command := hcommand }
  · exact { hs with
      notFatal := ⟨hs.notFatal.1, hs.notFatal.2.1, by simp⟩
      beforeInit := fun hbefore => by simp [hinit] at hbefore
      edgeAttached := fun _ hedge => by simp [hmode] at hedge
      polledQuiet := fun _ _ =>
        let ⟨hmask, hattached, hpend, _⟩ := hs.polledQuiet hinit hmode
        ⟨hmask, hattached, hpend, by simp⟩
      room := fun _ => ⟨hroom, hmask⟩
      maskedAtExit := nofun
      inlineService := fun _ _ _ => ⟨_, rfl, hi, rfl⟩
      command := hcommand
      outPacket := nofun
      inPacket := nofun
      bodyCount := nofun
      bodyDone := nofun
      requestLine := ⟨nofun, nofun⟩ }

/-! ### Steps of the service -/

/-- What a step between S_START and S_POST leaves: all that the invariant speaks of but SVC_ST, REQN, TXQ and the packet
registers and counts. -/
structure ServiceFrame (s t : State) : Prop where
  cfg : t.cfg = s.cfg
  rxq : t.rxq = s.rxq
  mode : t.mode = s.mode
  rdyMask : t.rdyMask = s.rdyMask
  attached : t.attached = s.attached
  rdyPend : t.rdyPend = s.rdyPend
  fatal : t.fatal = s.fatal
  fatalCause : t.fatalCause = s.fatalCause
  initDone : t.initDone = s.initDone
  hcmd : t.hcmd = s.hcmd

/-- The parts of the invariant about the transaction: the packets, the counts and the request line. -/
structure TransactionInv (t : State) : Prop where
  outPacket : t.svcSt.sending = true → t.txb.Defined t.cfg
  inPacket : t.svcSt = .sBody ∨ t.svcSt.received = true →
    t.rxb.status = 0 ∧ t.rxb.length.toNat ≤ t.mb.toNat ∧ t.mb.toNat ≤ t.cfg.maxLen ∧
      ∀ j < t.k.toNat, (Memory.read t.rxb.payload j).isSome
  bodyCount : t.svcSt = .sBody → t.k.toNat < t.mb.toNat
  bodyDone : t.svcSt.received = true → t.k = t.mb
  requestLine : (t.svcSt.requesting = true → t.reqn = false) ∧ (t.svcSt = .sRearm → t.reqn = true)

/-- From S_START to S_POST the bridge's and the flow controller's parts of the invariant do not change. -/
theorem inv_of_service_step (hs : s.Inv) (hfrom : s.svcSt.beforePost = true) (hentry : s.svcSt ≠ .sEntry)
    (hto : t.svcSt.beforePost = true) (hnotEntry : t.svcSt ≠ .sEntry) (hf : ServiceFrame s t) (htxq : t.txq.Wf t.cfg)
    (hstores : t.Canonical) (htrans : TransactionInv t) : t.Inv := by
  have hbusy : s.svcSt ≠ .sIdle := fun h => by simp [h, SvcState.beforePost] at hfrom
  have hbusy' : t.svcSt ≠ .sIdle := fun h => by simp [h, SvcState.beforePost] at hto
  have hinit := hs.initDone_of_service hbusy
  have hroom := hs.room hfrom
  exact { htrans with
    parameters := hf.cfg ▸ hs.parameters
    outgoing := htxq
    incoming := by rw [hf.cfg, hf.rxq]; exact hs.incoming
    stores := hstores
    notFatal := by
      rw [hf.fatal, hf.fatalCause]
      exact ⟨hs.notFatal.1, hs.notFatal.2.1, fun h => by simp [h, SvcState.beforePost] at hto⟩
    beforeInit := fun h => by simp [hf.initDone, hinit] at h
    fullIsMasked := fun _ _ h => by simp [hf.cfg, hf.rxq, hroom.1] at h
    edgeAttached := fun _ hmode => by
      rw [hf.attached, hs.edgeAttached hinit (hf.mode ▸ hmode)]
      simp [hbusy, hentry, hbusy', hnotEntry]
    polledQuiet := fun _ hmode => by
      have ⟨hmask, hattached, hpend, _⟩ := hs.polledQuiet hinit (hf.mode ▸ hmode)
      rw [hf.rdyMask, hf.attached, hf.rdyPend]
      exact ⟨hmask, hattached, hpend, hnotEntry⟩
    room := fun _ => by rw [hf.cfg, hf.rxq, hf.rdyMask]; exact hroom
    maskedAtExit := fun h => by simp [h, SvcState.beforePost] at hto
    inlineService := fun _ hmode _ => hf.hcmd ▸ hs.inlineService hinit (hf.mode ▸ hmode) hbusy
    command := fun h hh => by
      have hbetween := hs.command h (hf.hcmd ▸ hh)
      rw [HostCommand.Between] at hbetween ⊢
      rwa [hf.mode] }

/-- R121. -/
theorem requested_inv (hs : s.Inv) (hsvc : s.svcSt = .sStart) : State.Inv { s with reqn := false, svcSt := .sFetch } :=
  inv_of_service_step hs (by rw [hsvc]; rfl) (by simp [hsvc]) rfl nofun ⟨rfl, rfl, rfl, rfl, rfl, rfl, rfl, rfl, rfl, rfl⟩
    hs.outgoing hs.stores ⟨nofun, nofun, nofun, nofun, fun _ => rfl, nofun⟩

/-- R122: the packet taken into TXB is defined. -/
theorem fetched_inv {n : Nat} (hs : s.Inv) (hsvc : s.svcSt = .sFetch) (hwf : q.Wf s.cfg)
    (hpayload : Memory.wf p.payload = true) (hp : p.Defined s.cfg) :
    State.Inv { s with txb := p, txq := q, svcSt := .sHdr0, draws := n } := by
  have ⟨_, hrx, _, hrxb, hout⟩ := hs.stores
  have hreqn := hs.requestLine.1 (by rw [hsvc]; rfl)
  exact inv_of_service_step hs (by rw [hsvc]; rfl) (by simp [hsvc]) rfl nofun
    ⟨rfl, rfl, rfl, rfl, rfl, rfl, rfl, rfl, rfl, rfl⟩ hwf ⟨hwf.canonical, hrx, hpayload, hrxb, hout⟩
    ⟨fun _ => hp, nofun, nofun, nofun, fun _ => hreqn, nofun⟩

/-- R122: the null packet is defined. -/
theorem null_defined (c : Config) : Packet.null.Defined c := ⟨c.maxLen.zero_le, nofun⟩

/-- R123. -/
theorem headerSent_inv {b : Byte} (hs : s.Inv) (hsvc : s.svcSt = .sHdr0) :
    State.Inv { (exchange b s).2 with svcSt := .sHdr1 } := by
  have hreqn := hs.requestLine.1 (by rw [hsvc]; rfl)
  have hp := hs.outPacket (by rw [hsvc]; rfl)
  exact inv_of_service_step hs (by rw [hsvc]; rfl) (by simp [hsvc]) rfl nofun
    ⟨rfl, rfl, rfl, rfl, rfl, rfl, rfl, rfl, rfl, rfl⟩ hs.outgoing hs.stores
    ⟨fun _ => hp, nofun, nofun, nofun, fun _ => hreqn, nofun⟩

/-- R124, R126: an exchange after which SVC is in S_BODY with K below MB, or in S_END with K at MB. -/
theorem inv_of_exchange (hs : s.Inv) (hsvc : s.svcSt = .sHdr1 ∨ s.svcSt = .sBody) (hf : ServiceFrame s t)
    (hsame : t.txq = s.txq ∧ t.txb = s.txb ∧ t.reqn = s.reqn) (hstores : t.Canonical)
    (hin : t.rxb.status = 0 ∧ t.rxb.length.toNat ≤ t.mb.toNat ∧ t.mb.toNat ≤ t.cfg.maxLen ∧
      ∀ j < t.k.toNat, (Memory.read t.rxb.payload j).isSome)
    (hnext : t.svcSt = .sBody ∧ t.k.toNat < t.mb.toNat ∨ t.svcSt = .sEnd ∧ t.k = t.mb) : t.Inv := by
  obtain ⟨htxq, htxb, hreqn⟩ := hsame
  have hfrom : s.svcSt.beforePost = true ∧ s.svcSt.requesting = true ∧ s.svcSt.sending = true ∧ s.svcSt ≠ .sEntry := by
    rcases hsvc with h | h <;> rw [h] <;> decide
  obtain ⟨hbefore, hrequesting, hsending, hentry⟩ := hfrom
  have hp : t.txb.Defined t.cfg := by rw [htxb, hf.cfg]; exact hs.outPacket hsending
  have hlow : t.reqn = false := by rw [hreqn]; exact hs.requestLine.1 hrequesting
  have hwf : t.txq.Wf t.cfg := by rw [htxq, hf.cfg]; exact hs.outgoing
  obtain ⟨hst, hk⟩ | ⟨hst, hk⟩ := hnext
  · exact inv_of_service_step hs hbefore hentry (by rw [hst]; rfl) (by simp [hst]) hf hwf hstores
      ⟨fun _ => hp, fun _ => hin, fun _ => hk, fun h => by simp [hst, SvcState.received] at h, fun _ => hlow,
        fun h => by simp [hst] at h⟩
  · exact inv_of_service_step hs hbefore hentry (by rw [hst]; rfl) (by simp [hst]) hf hwf hstores
      ⟨fun _ => hp, fun _ => hin, fun h => by simp [hst] at h, fun _ => hk, fun _ => hlow, fun h => by simp [hst] at h⟩

/-- R124, R130: S_HDR1 sets RXB's length within MB, and K to 0. -/
theorem afterHdr1_inv {r : Byte} (hs : s.Inv) (hsvc : s.svcSt = .sHdr1) (turns : List Turn) (more : List Byte) :
    (afterHdr1 s r turns more).Inv := by
  have ⟨htx, hrx, htxb, _, hout⟩ := hs.stores
  have ⟨hmax, hmin, _⟩ := maxBytes_bounds s.cfg s.txb.length.toNat r.toNat
  have hmb : (afterHdr1 s r turns more).mb.toNat = maxBytes s.cfg s.txb.length.toNat r.toNat :=
    toNat_ofNat_of_le hs.parameters hmax
  have hlen : (afterHdr1 s r turns more).rxb.length.toNat = min r.toNat s.cfg.maxLen :=
    toNat_ofNat_of_le hs.parameters (Nat.min_le_right ..)
  refine inv_of_exchange hs (.inl hsvc) ⟨rfl, rfl, rfl, rfl, rfl, rfl, rfl, rfl, rfl, rfl⟩ ⟨rfl, rfl, rfl⟩
    ⟨htx, hrx, htxb, Memory.wf_nil, hout⟩ ⟨rfl, hmb ▸ hlen ▸ hmin, hmb ▸ hmax, nofun⟩ ?_
  by_cases hpos : 0 < maxBytes s.cfg s.txb.length.toNat r.toNat
  · exact .inl ⟨if_pos hpos, hmb ▸ hpos⟩
  · exact .inr ⟨if_neg hpos, BitVec.eq_of_toNat_eq (hmb ▸ (Nat.eq_zero_of_not_pos hpos).symm)⟩

/-- R126: S_BODY writes the byte at K and counts K on. -/
theorem afterBody_inv {r : Byte} (hs : s.Inv) (hsvc : s.svcSt = .sBody) (turns : List Turn) (more : List Byte) :
    (afterBody s r turns more).Inv := by
  have ⟨htx, hrx, htxb, hrxb, hout⟩ := hs.stores
  obtain ⟨hstatus, hlen, hmax, hwritten⟩ := hs.inPacket (.inl hsvc)
  have hk := hs.bodyCount hsvc
  have hk1 : (afterBody s r turns more).k.toNat = s.k.toNat + 1 := toNat_add_one hk
  refine inv_of_exchange hs (.inr hsvc) ⟨rfl, rfl, rfl, rfl, rfl, rfl, rfl, rfl, rfl, rfl⟩ ⟨rfl, rfl, rfl⟩
    ⟨htx, hrx, htxb, Memory.wf_write _ _ hrxb, hout⟩ ⟨hstatus, hlen, hmax, fun j hj => ?_⟩ ?_
  · by_cases hjk : j = s.k.toNat
    · subst hjk
      exact Option.isSome_of_eq_some (Memory.read_write_same ..)
    · have hread : Memory.read (afterBody s r turns more).rxb.payload j = Memory.read s.rxb.payload j :=
        Memory.read_write_other _ _ hjk
      rw [hread]
      exact hwritten j (by omega)
  · by_cases hlast : s.k + 1 = s.mb
    · exact .inr ⟨if_pos hlast, hlast⟩
    · have hne : (afterBody s r turns more).k.toNat ≠ s.mb.toNat := fun h => hlast (BitVec.eq_of_toNat_eq h)
      exact .inl ⟨if_neg hlast, Nat.lt_of_le_of_ne (hk1 ▸ hk) hne⟩

/-- R128. -/
theorem released_inv (hs : s.Inv) (hsvc : s.svcSt = .sEnd) : State.Inv { s with reqn := true, svcSt := .sRearm } := by
  have hin := hs.inPacket (.inr (by rw [hsvc]; rfl))
  have hdone := hs.bodyDone (by rw [hsvc]; rfl)
  exact inv_of_service_step hs (by rw [hsvc]; rfl) (by simp [hsvc]) rfl nofun
    ⟨rfl, rfl, rfl, rfl, rfl, rfl, rfl, rfl, rfl, rfl⟩ hs.outgoing hs.stores
    ⟨nofun, fun _ => hin, nofun, fun _ => hdone, nofun, fun _ => rfl⟩

/-- R129. -/
theorem rearmed_inv (reqn : Bool) (hs : s.Inv) (hsvc : s.svcSt = .sRearm) :
    State.Inv { s with reqn := reqn, svcSt := .sPost } := by
  have hin := hs.inPacket (.inr (by rw [hsvc]; rfl))
  have hdone := hs.bodyDone (by rw [hsvc]; rfl)
  exact inv_of_service_step hs (by rw [hsvc]; rfl) (by simp [hsvc]) rfl nofun
    ⟨rfl, rfl, rfl, rfl, rfl, rfl, rfl, rfl, rfl, rfl⟩ hs.outgoing hs.stores
    ⟨nofun, fun _ => hin, nofun, fun _ => hdone, nofun, nofun⟩

/-! ### The bridge -/

/-- R142: a service starts where RXQ has room, since a full one is masked. -/
theorem serviceStart_inv (hs : s.Inv) (hstart : startEnabled s = true) : (serviceStart s).Inv := by
  obtain ⟨hmode, hinit, hfatal, hsvc, hpend, hattached, hmask⟩ := startEnabled_iff.mp hstart
  have hroom : qIsFull s.cfg s.rxq = false := by
    by_contra hfull
    simp [hs.fullIsMasked hinit hmode (by simpa using hfull)] at hmask
  exact { hs with
    notFatal := ⟨hfatal, hs.notFatal.2.1, nofun⟩
    beforeInit := fun h => by simp [hinit] at h
    edgeAttached := fun _ _ => by simp [hattached]
    polledQuiet := fun _ hpolled => by simp [hmode] at hpolled
    room := fun _ => ⟨hroom, hmask⟩
    maskedAtExit := nofun
    inlineService := fun _ hpolled => by simp [hmode] at hpolled
    outPacket := nofun
    inPacket := nofun
    bodyCount := nofun
    bodyDone := nofun
    requestLine := ⟨nofun, nofun⟩ }

/-- R143. -/
theorem serviceEntry_inv (hs : s.Inv) (hsvc : s.svcSt = .sEntry) (hmode : s.mode = .edge) : (serviceEntry s).Inv := by
  have hinit := hs.initDone_of_service (by simp [hsvc])
  exact { hs with
    notFatal := ⟨hs.notFatal.1, hs.notFatal.2.1, nofun⟩
    beforeInit := fun h => by simp [hinit] at h
    edgeAttached := fun _ _ => by simp
    polledQuiet := fun _ hpolled => by simp [hmode] at hpolled
    room := fun _ => hs.room (by rw [hsvc]; rfl)
    maskedAtExit := nofun
    inlineService := fun _ hpolled => by simp [hmode] at hpolled
    outPacket := nofun
    inPacket := nofun
    bodyCount := nofun
    bodyDone := nofun
    requestLine := ⟨nofun, nofun⟩ }

/-- R144, R161: after S_POST the mask is set exactly where RXQ is full, and in EDGE mode only. -/
theorem posted_inv {m : Bool} {n : Nat} (hs : s.Inv) (hsvc : s.svcSt = .sPost) (hwf : q.Wf s.cfg)
    (hm : m = (decide (s.mode = .edge) && qIsFull s.cfg q)) :
    State.Inv { s with rxq := q, rdyMask := m, svcSt := .sExit, draws := n } := by
  have ⟨htx, _, hpackets⟩ := hs.stores
  have hinit := hs.initDone_of_service (by simp [hsvc])
  exact { hs with
    incoming := hwf
    stores := ⟨htx, hwf.canonical, hpackets⟩
    notFatal := ⟨hs.notFatal.1, hs.notFatal.2.1, nofun⟩
    beforeInit := fun h => by simp [hinit] at h
    fullIsMasked := fun _ hmode hfull => by simpa [hm] using ⟨hmode, hfull⟩
    edgeAttached := fun _ hmode => by simp [hs.edgeAttached hinit hmode, hsvc]
    polledQuiet := fun _ hmode => by
      have ⟨_, hattached, hpend, _⟩ := hs.polledQuiet hinit hmode
      exact ⟨by simp [hm, show s.mode = .polled from hmode], hattached, hpend, nofun⟩
    room := nofun
    maskedAtExit := fun _ hmask => by
      obtain ⟨-, hfull⟩ : s.mode = .edge ∧ qIsFull s.cfg q = true := by simpa [hm] using hmask
      exact hfull
    inlineService := fun _ hmode _ => hs.inlineService hinit hmode (by simp [hsvc])
    outPacket := nofun
    inPacket := nofun
    bodyCount := nofun
    bodyDone := nofun
    requestLine := ⟨nofun, nofun⟩ }

/-- R145. -/
theorem serviceReturn_inv (hs : s.Inv) (hsvc : s.svcSt = .sExit) : (serviceReturn s).Inv := by
  have hinit := hs.initDone_of_service (by simp [hsvc])
  exact { hs with
    notFatal := ⟨hs.notFatal.1, hs.notFatal.2.1, nofun⟩
    beforeInit := fun h => by simp [hinit] at h
    edgeAttached := fun _ hmode => by simp [show s.mode = .edge from hmode]
    polledQuiet := fun _ hmode => by
      have ⟨hmask, hattached, hpend, _⟩ := hs.polledQuiet hinit hmode
      exact ⟨hmask, by simp [show s.mode = .polled from hmode, hattached], hpend, nofun⟩
    room := nofun
    maskedAtExit := nofun
    inlineService := fun _ _ h => absurd rfl h
    outPacket := nofun
    inPacket := nofun
    bodyCount := nofun
    bodyDone := nofun
    requestLine := ⟨nofun, nofun⟩ }

/-- R141: an edge is latched only after INIT and in EDGE mode. -/
theorem readyDriven_inv (level : Bool) (hs : s.Inv) :
    State.Inv { s with rdyn := level, rdyPend := s.rdyPend || edgeLatch level s } :=
  { hs with
    beforeInit := fun hinit => by
      have ⟨hreqn, hmask, hattached, hpend, hrest⟩ := hs.beforeInit hinit
      have hlatch : edgeLatch level s = false := by simp [edgeLatch, show s.initDone = false from hinit]
      exact ⟨hreqn, hmask, hattached, by simp [hpend, hlatch], hrest⟩
    polledQuiet := fun hinit hmode => by
      have ⟨hmask, hattached, hpend, hrest⟩ := hs.polledQuiet hinit hmode
      have hlatch : edgeLatch level s = false := by simp [edgeLatch, show s.mode = .polled from hmode]
      exact ⟨hmask, hattached, by simp [hpend, hlatch], hrest⟩ }

/-! ### Every step keeps the invariant -/

/-- Every effect of an operation that an agent selects keeps the invariant. -/
theorem effect_keeps_inv (hs : s.Inv) (hi : i.scheduled = true) (he : Effect s i t) : t.Inv := by
  have idle (h : hostEnabled s = true) : s.svcSt = .sIdle := (hostEnabled_iff.mp h).2
  cases he with
  | waits | startRefused => exact hs
  | answered _ henabled => exact respond_inv hs (idle henabled) _ _ _
  | linked mode henabled => exact initLink_inv mode hs (idle henabled)
  | sendQueued _ _ henabled hinit _ hq => exact sendQueued_inv hs (idle henabled) hinit hq
  | sendAsserted _ henabled hcmd =>
    have hsvc := idle henabled
    exact respond_inv (withReqn_inv false hs hsvc (hs.initDone_of_hcmd hcmd)) hsvc _ _ _
  | polledFirst hpolls henabled hinit hmode hpolled =>
    exact polledFirst_inv hs (idle henabled) hpolls hinit hmode hpolled
  | peeked _ henabled => exact respond_inv (s := fresh (fresh s)) { hs with } (idle henabled) _ _ _
  | got p q data henabled hq =>
    obtain ⟨hne, -, rfl⟩ := qDequeue_eq_some hq
    exact got_inv p _ data hs (idle henabled) hne
  | flushed henabled => exact respond_inv (qFlush_inv hs (idle henabled)) (idle henabled) _ _ _
  | debugWritten enable henabled =>
    exact respond_inv (s := { s with debugEn := enable }) { hs with } (idle henabled) _ _ _
  | requested hsvc => exact requested_inv hs hsvc
  | fetchedNull hsvc => exact fetched_inv (s := s) hs hsvc hs.outgoing Memory.wf_nil (null_defined s.cfg)
  | fetched _ _ hsvc hq =>
    have hcanonical := qDequeue_canonical hq hs.outgoing.canonical
    obtain ⟨hne, rfl, rfl⟩ := qDequeue_eq_some hq
    exact fetched_inv (s := s) hs hsvc (dropped_wf hs.outgoing hne) hcanonical.2
      (headPacket_defined s.draws (holds_head hs.outgoing hne))
  | headerSent hsvc => exact headerSent_inv hs hsvc
  | headerTaken r hsvc => exact afterHdr1_inv hs hsvc s.turns s.devAnswers.tail
  | bodyTaken r hsvc => exact afterBody_inv hs hsvc s.turns s.devAnswers.tail
  | released hsvc => exact released_inv hs hsvc
  | rearmed hsvc => exact rearmed_inv _ hs hsvc
  | started hstart => exact serviceStart_inv hs hstart
  | entered hsvc hmode => exact serviceEntry_inv hs hsvc hmode
  | postedNothing hsvc =>
    obtain ⟨hroom, hmask⟩ := hs.room (by rw [hsvc]; rfl)
    exact posted_inv hs hsvc hs.incoming (by simp [hroom, hmask])
  | postOverflowed hsvc hfull =>
    obtain ⟨hroom, -⟩ := hs.room (by rw [hsvc]; rfl)
    simp [hfull] at hroom
  | posted _ hsvc hq =>
    obtain ⟨hlen, hroom, rfl⟩ := qEnqueue_eq_some hq
    obtain ⟨-, hmask⟩ := hs.room (by rw [hsvc]; rfl)
    rw [maskCheck_eq]
    exact posted_inv (s := s) hs hsvc (appended_wf hs.incoming hlen hroom) (by simp [hmask])
  | returned hsvc => exact serviceReturn_inv hs hsvc
  | readyDriven level => exact readyDriven_inv level hs
  | hardReset => exact hardReset_inv hs
  | _ => cases hi

/-- R12, R44: what HOST selects is a host command. -/
theorem hostOperation_encode (hs : s.Inv) (h : (hostOperation s).1 = some i) : (encode i).isSome = true := by
  obtain heq | ⟨hc, -, hcmd, heq⟩ | ⟨j, rest, -, -, hdecode, heq⟩ := hostOperation_cases s <;> rw [heq] at h <;> cases h
  · obtain ⟨-, ⟨payload, hinstr, -⟩ | ⟨hpolls, -⟩⟩ := hs.command hc hcmd
    · rw [hinstr]
      rfl
    · rcases Instr.polls_iff.mp hpolls with h | h <;> rw [h] <;> rfl
  · obtain ⟨-, taken, henc, -⟩ := decodeTakesExactlyTheEncoding _ _ _ hdecode
    rw [henc]
    rfl

/-- R38: what SVC selects is the step that SVC_ST names. -/
theorem scheduled_of_svcInstr {st : SvcState} (h : svcInstr st = some i) : i.scheduled = true := by
  cases st <;> cases h <;> rfl

/-- From a state with the invariant an agent selects only scheduled operations. -/
theorem scheduled_of_runs (hs : s.Inv) (h : s.runs = some i) : i.scheduled = true := by
  rw [State.runs, nextOperation] at h
  cases hturn : currentTurn s with
  | host =>
    rw [hturn] at h
    exact Instr.scheduled_of_encode (hostOperation_encode ((popTurn_sameButSchedule s).inv hs) h)
  | svc =>
    rw [hturn, agentOperation, svcOperation] at h
    split at h
    · cases h
    · exact scheduled_of_svcInstr h
  | dev | rst =>
    rw [hturn] at h
    cases h
    rfl

/-- Settles O58: the step is one effect of a scheduled operation. -/
theorem stepKeepsInvariant : Obligations.StepKeepsInvariant := by
  unfold Obligations.StepKeepsInvariant
  intro s t hs h
  obtain ⟨u, hu, rfl | ⟨i, hruns, he⟩⟩ := step_effect h
  · exact hu.inv hs
  · exact effect_keeps_inv (hu.inv hs) (scheduled_of_runs hs hruns) he

/-! ### A state with the invariant always has a next state -/

/-- The outcome is a next state, no fault and no refusal. -/
def GoesOn (r : Result) : Prop := ∃ t, r = .next t

theorem qEnqueue_answers (d : Nat) (hq : q.Wf c) (hlen : p.length.toNat ≤ c.maxLen) :
    ∃ answer, qEnqueue c q p d = .ok answer := by
  obtain ⟨-, hlong⟩ | ⟨heq, -⟩ | ⟨-, -, -, htail⟩ | ⟨-, -, -, heq⟩ := qEnqueue_cases c q p d
  · omega
  · exact ⟨_, heq⟩
  · have := hq.tailInRange
    omega
  · exact ⟨_, heq⟩

theorem qPeek_answers (d : Nat) (hq : q.Wf c) : ∃ answer, qPeek c q d = .ok answer := by
  obtain ⟨heq, -⟩ | ⟨-, -, hhead⟩ | ⟨heq, -⟩ := qPeek_cases c q d
  · exact ⟨_, heq⟩
  · have := hq.headInRange
    omega
  · exact ⟨_, heq⟩

theorem qDequeue_answers (d : Nat) (hq : q.Wf c) : ∃ answer, qDequeue c q d = .ok answer := by
  obtain ⟨heq, -⟩ | ⟨-, -, hhead⟩ | ⟨heq, -⟩ := qDequeue_cases c q d
  · exact ⟨_, heq⟩
  · have := hq.headInRange
    omega
  · exact ⟨_, heq⟩

theorem sendEnqueue_goesOn (payload : List Byte) (hs : s.Inv) : GoesOn (sendEnqueue payload s) := by
  by_cases hlen : s.cfg.maxLen < payload.length
  · exact ⟨_, if_pos hlen⟩
  · have hle : payload.length ≤ s.cfg.maxLen := by omega
    have hfits : (Packet.ofBytes 0 (BitVec.ofNat 8 payload.length) payload).length.toNat ≤ s.cfg.maxLen := by
      rwa [Packet.ofBytes, toNat_length_of_le hs.parameters hle]
    obtain ⟨_ | q, hq⟩ := qEnqueue_answers s.draws hs.outgoing hfits
    · exact ⟨_, sendEnqueue_of_full hle hq⟩
    · exact ⟨_, sendEnqueue_of_queued hle hq⟩

theorem peekHead_goesOn (hs : s.Inv) : GoesOn (peekHead s) := by
  obtain ⟨_ | p, hp⟩ := qPeek_answers s.draws hs.incoming <;> rw [peekHead, hp] <;> exact ⟨_, rfl⟩

theorem getHead_goesOn (hs : s.Inv) : GoesOn (getHead s) := by
  obtain ⟨_ | ⟨p, q⟩, hq⟩ := qDequeue_answers s.draws hs.incoming <;> rw [getHead, hq] <;> exact ⟨_, rfl⟩

theorem pollThen_goesOn {body : State → Result} {n : Nat} (hn : n ≤ 1) (hbody : GoesOn (body s)) :
    GoesOn (pollThen i body n s) := by
  obtain ⟨-, -, heq⟩ | ⟨-, -, heq⟩ | ⟨hlarge, -⟩ := pollThen_cases i body n s
  · exact ⟨_, heq⟩
  · rwa [heq]
  · omega

/-- R191: the first micro-step of every host command goes on. -/
theorem hostMicros_zero_goesOn (hs : s.Inv) (hi : (encode i).isSome = true) : GoesOn (hostMicros i 0 s) := by
  cases i with
  | send payload => exact sendEnqueue_goesOn payload hs
  | peekEvent => exact pollThen_goesOn (n := 0) (Nat.zero_le 1) (peekHead_goesOn hs)
  | getEvent => exact pollThen_goesOn (n := 0) (Nat.zero_le 1) (getHead_goesOn hs)
  | init | txqEmpty | txqFull | rxqEmpty | rxqFull | flush | debugSet | illegal => exact ⟨_, rfl⟩
  | _ => cases hi

/-- R44, R191: so does the next micro-step of the command in progress. -/
theorem hostMicros_step_goesOn {h : HostCommand} (hs : s.Inv) (hcmd : s.hcmd = some h) :
    GoesOn (hostMicros h.instr h.step s) := by
  obtain ⟨hstep, ⟨payload, hinstr, hok⟩ | ⟨hpolls, -⟩⟩ := hs.command h hcmd <;> rw [hstep]
  · rw [hinstr]
    obtain ⟨instr, current, ok⟩ := h
    obtain rfl : ok = true := hok
    have hassert : sendAssert s = .next (respond .done true [] { s with reqn := false }) := by rw [sendAssert, hcmd]
    exact ⟨_, hassert⟩
  · rcases Instr.polls_iff.mp hpolls with hinstr | hinstr <;> rw [hinstr]
    · exact pollThen_goesOn (i := .peekEvent) (n := 1) (Nat.le_refl 1) (peekHead_goesOn hs)
    · exact pollThen_goesOn (i := .getEvent) (n := 1) (Nat.le_refl 1) (getHead_goesOn hs)

theorem hostCommand_goesOn (hs : s.Inv) (hi : (encode i).isSome = true) : GoesOn (exec i s) := by
  rw [exec_hostCommand hi]
  obtain ⟨-, heq⟩ | ⟨-, -, -, -, heq⟩ | ⟨-, -, -, heq⟩ | ⟨h, hready, hcmd, heq⟩ :=
    hostMicro_cases i i.needsInit (hostMicros i) s
  · exact ⟨_, heq⟩
  · exact ⟨_, heq⟩
  · rw [heq]
    exact hostMicros_zero_goesOn hs hi
  · rw [heq, ← (hostReady_iff.mp hready).2 h hcmd]
    exact hostMicros_step_goesOn hs hcmd

/-- R214: the step that SVC_ST names goes on. -/
theorem service_goesOn (hs : s.Inv) (hi : svcInstr s.svcSt = some i) : GoesOn (exec i s) := by
  obtain ⟨hfatal, -, -⟩ := hs.notFatal
  cases hsvc : s.svcSt <;> rw [hsvc] at hi <;> cases hi
  case sIdle =>
    rw [exec, execSvcStart]
    split <;> exact ⟨_, rfl⟩
  case sEntry =>
    have hmode : s.mode = .edge := by
      cases hmode : s.mode with
      | edge => rfl
      | polled =>
        have ⟨_, _, _, hno⟩ := hs.polledQuiet (hs.initDone_of_service (by simp [hsvc])) hmode
        exact absurd hsvc hno
    exact ⟨_, exec_sEntry hfatal hsvc hmode⟩
  case sStart => exact ⟨_, exec_sStart hfatal hsvc⟩
  case sFetch =>
    rw [exec_sFetch hfatal hsvc]
    obtain ⟨_ | ⟨p, q⟩, hq⟩ := qDequeue_answers s.draws hs.outgoing <;> rw [fetchOutgoing, hq] <;> exact ⟨_, rfl⟩
  case sHdr0 => exact ⟨_, exec_sHdr0 hfatal hsvc⟩
  case sHdr1 => exact ⟨_, exec_sHdr1 hfatal hsvc⟩
  case sBody =>
    obtain ⟨-, -, hmax, -⟩ := hs.inPacket (.inl hsvc)
    exact ⟨_, exec_sBody hfatal hsvc (hs.bodyCount hsvc) hmax⟩
  case sEnd => exact ⟨_, exec_sEnd hfatal hsvc⟩
  case sRearm => exact ⟨_, exec_sRearm hfatal hsvc⟩
  case sPost =>
    rw [exec_sPost hfatal hsvc]
    by_cases hzero : s.rxb.length = 0
    · exact ⟨_, postResult_of_idle hzero⟩
    · obtain ⟨-, hlen, hmax, -⟩ := hs.inPacket (.inr (by rw [hsvc]; rfl))
      obtain ⟨_ | q, hq⟩ := qEnqueue_answers s.draws hs.incoming (hlen.trans hmax)
      · exact ⟨_, postResult_of_full hzero hq⟩
      · exact ⟨_, postResult_of_queued hzero hq⟩
  case sExit => exact ⟨_, exec_sExit hfatal hsvc⟩

/-- R214: whichever agent moves, a step from a state with the invariant goes on. -/
theorem step_goesOn (hs : s.Inv) : GoesOn (step s) := by
  have hu := (nextOperation_sameButSchedule s).inv hs
  cases hop : (nextOperation s).1 with
  | none => exact ⟨_, step_of_none (Prod.ext hop rfl)⟩
  | some i =>
    rw [step_of_selected (Prod.ext hop rfl : nextOperation s = (some i, (nextOperation s).2))]
    rw [nextOperation] at hop hu ⊢
    cases hturn : currentTurn s with
    | host =>
      rw [hturn] at hop hu
      exact hostCommand_goesOn hu (hostOperation_encode ((popTurn_sameButSchedule s).inv hs) hop)
    | svc =>
      rw [hturn] at hop hu
      rw [agentOperation, svcOperation] at hop
      split at hop
      · cases hop
      · exact service_goesOn hu hop
    | dev | rst =>
      rw [hturn] at hop
      cases hop
      exact ⟨_, rfl⟩

/-- Settles O59: by induction on the number of steps; the invariant holds of no fatal state. -/
theorem fatalIsUnreachable : Obligations.FatalIsUnreachable := by
  unfold Obligations.FatalIsUnreachable
  intro n
  induction n with
  | zero =>
    intro s hs
    exact ⟨s, rfl, hs, hs.notFatal.1, hs.notFatal.2.1⟩
  | succ n ih =>
    intro s hs
    obtain ⟨t, hstep⟩ := step_goesOn hs
    obtain ⟨u, hrun, hu⟩ := ih t (stepKeepsInvariant s t hs hstep)
    exact ⟨u, (core_run_of_step n hstep).trans hrun, hu⟩

end Sys2Proof.Machine
end

section
/-! PROOFS. The receive stall (R165, R244(a)): which effects enter it and which leave it. -/

namespace Sys2Proof.Machine

variable {s t u : State} {i : Instr}

/-- The stall does not speak of the turns, the draw counter and the command port. -/
theorem SameButSchedule.stalled_iff (h : SameButSchedule s u) : u.Stalled ↔ s.Stalled := by
  rw [h]
  exact Iff.rfl

theorem State.Stalled.idle (h : s.Stalled) : s.svcSt = .sIdle := h.2.2.1

theorem State.Stalled.masked (h : s.Stalled) : s.rdyMask = true := h.2.2.2.1

theorem State.Stalled.edge (h : s.Stalled) : s.mode = .edge := h.2.1

theorem State.Stalled.room (h : s.Stalled) : qIsFull s.cfg s.rxq = false := h.2.2.2.2

/-- R163: a stall after GET_EVENT's unmask check was there before it, since a full RXQ would have cleared the mask. -/
theorem stalled_before_got {p : Packet} {q : Queue} {code : Code} {result : Bool} {data : List Byte}
    (h : State.Stalled (respond code result data
      (fresh (emitDiag .rx p (unmaskCheck true (qIsFull s.cfg s.rxq) (fresh { s with rxq := q })))))) : s.Stalled := by
  rw [unmaskCheck_true_eq] at h
  obtain ⟨hinit, hmode, hsvc, hmask, -⟩ := h
  have hedge : s.mode = .edge := hmode
  have hkept : (if s.mode = .edge ∧ qIsFull s.cfg s.rxq = true then false else s.rdyMask) = true := hmask
  cases hfull : qIsFull s.cfg s.rxq with
  | true => simp [hedge, hfull] at hkept
  | false => exact ⟨hinit, hedge, hsvc, by simpa [hfull] using hkept, hfull⟩

/-- R165(c): of the effects that an agent selects only FLUSH's enters the stall. -/
theorem stall_entered_by_flush (hs : s.Inv) (hi : i.scheduled = true) (he : Effect s i t) (ht : t.Stalled) :
    s.Stalled ∨ i = .flush := by
  cases he with
  | waits | startRefused | answered | sendQueued | sendAsserted | peeked | debugWritten | readyDriven => exact .inl ht
  | flushed => exact .inr rfl
  | got => exact .inl (stalled_before_got ht)
  | linked | hardReset => exact absurd ht.masked Bool.false_ne_true
  | polledFirst _ _ _ hmode => exact absurd (hmode.symm.trans ht.edge) nofun
  | returned hsvc => exact absurd ((hs.maskedAtExit hsvc ht.masked).symm.trans ht.room) nofun
  | headerTaken | bodyTaken =>
    have hidle := ht.idle
    dsimp only at hidle
    split at hidle <;> cases hidle
  | requested | fetchedNull | fetched | headerSent | released | rearmed | started | entered | postedNothing
  | postOverflowed | posted => exact absurd ht.idle nofun
  | _ => cases hi

/-- R165(c), R244(a): of these effects only INIT's and reset's leave the stall. -/
theorem stall_left_by_init_or_reset (hs : s.Inv) (hi : i.scheduled = true) (he : Effect s i t) (h : s.Stalled) :
    t.Stalled ∨ (∃ m, i = .init m) ∨ i = .rst := by
  have busy {st : SvcState} (hsvc : s.svcSt = st) (hne : st ≠ .sIdle) : False := hne (hsvc.symm.trans h.idle)
  cases he with
  | waits | startRefused | answered | sendQueued | sendAsserted | peeked | debugWritten | readyDriven => exact .inl h
  | linked mode => exact .inr (.inl ⟨mode, rfl⟩)
  | hardReset => exact .inr (.inr rfl)
  | flushed =>
    obtain ⟨hinit, hmode, hsvc, hmask, -⟩ := h
    exact .inl ⟨hinit, hmode, hsvc, hmask, qInit_room hs.parameters s.rxq⟩
  | got _ _ _ _ hq =>
    obtain ⟨hinit, hmode, hsvc, hmask, hroom⟩ := h
    obtain ⟨hne, -, rfl⟩ := qDequeue_eq_some hq
    rw [unmaskCheck_true_eq, hroom, if_neg (by simp)]
    exact .inl ⟨hinit, hmode, hsvc, hmask, dropped_room hs.incoming hne⟩
  | polledFirst _ _ _ hmode => exact absurd (hmode.symm.trans h.edge) nofun
  | started hstart =>
    obtain ⟨-, -, -, -, -, -, hmask⟩ := startEnabled_iff.mp hstart
    exact absurd (hmask.symm.trans h.masked) nofun
  | requested hsvc | fetchedNull hsvc | fetched _ _ hsvc | headerSent hsvc | headerTaken _ hsvc | bodyTaken _ hsvc
  | released hsvc | rearmed hsvc | entered hsvc | postedNothing hsvc | postOverflowed hsvc | posted _ hsvc
  | returned hsvc => exact (busy hsvc nofun).elim
  | _ => cases hi

/-- Settles O60: the step is one effect of a scheduled operation. -/
theorem receiveStallEvents : Obligations.ReceiveStallEvents := by
  unfold Obligations.ReceiveStallEvents
  intro s t hs hstep
  obtain ⟨u, hu, rfl | ⟨i, hruns, he⟩⟩ := step_effect hstep
  · exact ⟨fun ht => .inl (hu.stalled_iff.mp ht), fun h => .inl (hu.stalled_iff.mpr h)⟩
  · have hi := scheduled_of_runs hs hruns
    rw [hruns, ← hu.stalled_iff]
    simp only [Option.some.injEq]
    exact ⟨stall_entered_by_flush (hu.inv hs) hi he, stall_left_by_init_or_reset (hu.inv hs) hi he⟩

end Sys2Proof.Machine
end
